-- ==== Sys2Proof/Word.lean ====
section
/-! DEFINITION. The words and values of the wavey synthesis block (R11, R12, R65). -/

namespace Sys2Proof

/-- A command word (R12, R100): 48 bits, bit 47 the most significant. -/
abbrev Word48 := BitVec 48

/-- The 32-bit operand field `arg` of a command word (R101). -/
abbrev Arg := BitVec 32

/-- The 8-bit field `sel` of a command word (R101), the channel index of a class C command. -/
abbrev Sel := BitVec 8

/-- One byte of a serialised command word (R65). -/
abbrev Byte := BitVec 8

/-- A value: an exact rational (R11, D1). -/
abbrev Val := Rat

end Sys2Proof
end

