-- ==== Sys2Proof/Config.lean ====
section
/-! DEFINITION. What is fixed for one instance of the block (R5 to R8) and the two values the spec leaves open. -/

namespace Sys2Proof

/-- The two hosts that share the command port (R16, R76). -/
inductive HostId where
  /-- the render host, which issues RENDER words -/
  | render
  /-- the control host, which issues every other word -/
  | control
deriving DecidableEq, Repr, Inhabited

/-- `NCH`, the number of channels (R5). -/
abbrev Config.nch : Nat := 5

/-- `HMAX`, the largest harmonic count (R6). -/
abbrev Config.hmax : Nat := 8

/-- `N_SIN`, the number of sine-table entries (R7). -/
abbrev Config.nSin : Nat := 1024

/-- `M_COS`, the number of cosine-table entries (R7). -/
abbrev Config.mCos : Nat := 256

/-- The least sample rate of a block of this spec (R8, U6). -/
abbrev Config.srMin : Nat := 5

/-- By how much the instance's sample rate exceeds its least value: the open parameter `SR` of R8 and D17,
a constant without a body, so that every statement holds for every sample rate (log 1, safe). -/
opaque Config.rateAboveMin : Nat

/-- `SR`, the sample rate the instance is first initialised with (R8): any integer of at least 5. -/
def Config.sampleRate : Nat := Config.srMin + Config.rateAboveMin

/-- The open parameter `ARBITRATION` (R76, D7, U2): whose word is taken at the n-th contested choice.
A function without a body, so that every statement holds for every interleaving (log 2, safe). -/
opaque Config.arbiter : Nat → HostId

end Sys2Proof
end

