-- ==== Sys2Proof/Syntax.lean ====
section
/-! DEFINITION. The sixteen commands of the opcode map (R107), one constructor per row of spec/opcode_table.json.
Operands are the fields of the word; Sys2Proof/Machine/Operands.lean reads them in their forms (R104 to R106). -/

namespace Sys2Proof

/-- A command (R107). `ch` is the field `sel` of a class C command (R102). -/
inductive Instr where
  /-- RENDER L (R160): operand of form `len` -/
  | render (len : Arg)
  /-- TICK now (R180): operand of form `t` -/
  | tick (now : Arg)
  /-- NOTEON now (R190): operand of form `t` -/
  | noteon (now : Arg)
  /-- SETFREQ ch, hz (R200): operand of form `q` -/
  | setfreq (ch : Sel) (hz : Arg)
  /-- SETEN ch, en (R201): operand of form `e` -/
  | seten (ch : Sel) (en : Bool)
  /-- SETCH0 ch, hz (R202): operand of form `q` -/
  | setch0 (ch : Sel) (hz : Arg)
  /-- SETCH1 ch, hz (R203): operand of form `q` -/
  | setch1 (ch : Sel) (hz : Arg)
  /-- SETMASK mask (R204): operand of form `m` -/
  | setmask (mask : BitVec 4)
  /-- SETHCNT n (R205): operand of form `n` -/
  | sethcnt (n : Arg)
  /-- SETHVEL v (R206): operand of form `q` -/
  | sethvel (v : Arg)
  /-- SETDOFF w (R207): operand of form `q` -/
  | setdoff (w : Arg)
  /-- SETDRATE hz (R208): operand of form `q` -/
  | setdrate (hz : Arg)
  /-- SETVDEP hz (R209): operand of form `q` -/
  | setvdep (hz : Arg)
  /-- SETVRATE hz (R210): operand of form `q` -/
  | setvrate (hz : Arg)
  /-- SETATK seconds (R211): operand of form `q` -/
  | setatk (seconds : Arg)
  /-- SETREL seconds (R212): operand of form `q` -/
  | setrel (seconds : Arg)
deriving DecidableEq, Repr

end Sys2Proof
end

