-- ==== Sys2Proof/WellFormed.lean ====
section
/-! DEFINITION. Which commands a word can carry: the channel of a class C command is below `NCH` (R102, R112).
The other operand fields have exactly the width of their form, so no value of theirs is ill-formed. -/

namespace Sys2Proof

/-- A channel index that names a channel (R20, R112). -/
def channelOk (ch : Sel) : Bool := decide (ch.toNat < Config.nch)

/-- The command can be encoded (R102). -/
def Instr.wellFormed : Instr → Bool
  | .render _ => true
  | .tick _ => true
  | .noteon _ => true
  | .setfreq ch _ => channelOk ch
  | .seten ch _ => channelOk ch
  | .setch0 ch _ => channelOk ch
  | .setch1 ch _ => channelOk ch
  | .setmask _ => true
  | .sethcnt _ => true
  | .sethvel _ => true
  | .setdoff _ => true
  | .setdrate _ => true
  | .setvdep _ => true
  | .setvrate _ => true
  | .setatk _ => true
  | .setrel _ => true

end Sys2Proof
end

