-- ==== Sys2Proof/Decode.lean ====
section
/-! DEFINITION. From words and bytes to commands (R65, R100 to R118), then the encoder. Decoding is total; a word that is
no command is rejected by the name of the condition of R110 that it fails. -/

namespace Sys2Proof

/-- Why a word is ILLEGAL (R110), or why a byte stream holds no word. -/
inductive Illegal where
  /-- `op` is none of the sixteen values of R107 (R114) -/
  | reservedOpcode (op : Byte)
  /-- a class C word whose `sel` is `NCH` or more (R112) -/
  | channelOutOfRange (sel : Sel)
  /-- a class N word whose `sel` is not zero (R111) -/
  | selNotZero (sel : Sel)
  /-- SETEN with a bit of `arg[31:1]` set, or SETMASK with a bit of `arg[31:4]` set (R111) -/
  | reservedArgBits (arg : Arg)
  /-- fewer than six bytes of a serialised word (R65); not a property of a word -/
  | truncated
deriving DecidableEq, Repr

/-- `W[47:40]`, the operation code (R101). -/
def opField (w : Word48) : Byte := w.extractLsb' 40 8

/-- `W[39:32]`, the channel field (R101). -/
def selField (w : Word48) : Sel := w.extractLsb' 32 8

/-- `W[31:0]`, the operand field (R101). -/
def argField (w : Word48) : Arg := w.extractLsb' 0 32

/-- A class N command: `sel` must be zero (R102, R110). -/
def classN (sel : Sel) (i : Instr) : Except Illegal Instr :=
  if sel = 0#8 then .ok i else .error (.selNotZero sel)

/-- A class C command: `sel` must name a channel (R102, R110, R112). -/
def classC (sel : Sel) (i : Instr) : Except Illegal Instr :=
  if channelOk sel then .ok i else .error (.channelOutOfRange sel)

/-- Form `e`: `arg[31:1]` must be zero (R106, R111). -/
def formEOk (arg : Arg) : Bool := arg.extractLsb' 1 31 == 0#31

/-- Form `m`: `arg[31:4]` must be zero (R106, R111). -/
def formMOk (arg : Arg) : Bool := arg.extractLsb' 4 28 == 0#28

/-- An operand form's reserved bits, checked after the class (the order is unobservable, R233). -/
def checkArg (ok : Bool) (arg : Arg) (r : Except Illegal Instr) : Except Illegal Instr :=
  match r with
  | .error e => .error e
  | .ok i => if ok then .ok i else .error (.reservedArgBits arg)

/-- The decoder (R110, with the opcode map of R107). -/
def decode (w : Word48) : Except Illegal Instr :=
  let sel := selField w
  let arg := argField w
  match (opField w).toNat with
  | 0x01 => classN sel (.render arg)
  | 0x02 => classN sel (.tick arg)
  | 0x03 => classN sel (.noteon arg)
  | 0x10 => classC sel (.setfreq sel arg)
  | 0x11 => checkArg (formEOk arg) arg (classC sel (.seten sel (arg.getLsbD 0)))
  | 0x12 => classC sel (.setch0 sel arg)
  | 0x13 => classC sel (.setch1 sel arg)
  | 0x20 => checkArg (formMOk arg) arg (classN sel (.setmask (arg.extractLsb' 0 4)))
  | 0x21 => classN sel (.sethcnt arg)
  | 0x22 => classN sel (.sethvel arg)
  | 0x23 => classN sel (.setdoff arg)
  | 0x24 => classN sel (.setdrate arg)
  | 0x25 => classN sel (.setvdep arg)
  | 0x26 => classN sel (.setvrate arg)
  | 0x27 => classN sel (.setatk arg)
  | 0x28 => classN sel (.setrel arg)
  | _ => .error (.reservedOpcode (opField w))

/-- Six bytes, most significant first, as one word (R65). -/
def wordOfBytes (b0 b1 b2 b3 b4 b5 : Byte) : Word48 := b0 ++ b1 ++ b2 ++ b3 ++ b4 ++ b5

/-- A command from a serial byte stream, with the rest of the stream (R65, R100). -/
def decodeBytes : List Byte → Except Illegal (Instr × List Byte)
  | b0 :: b1 :: b2 :: b3 :: b4 :: b5 :: rest =>
    match decode (wordOfBytes b0 b1 b2 b3 b4 b5) with
    | .ok i => .ok (i, rest)
    | .error e => .error e
  | _ => .error .truncated

/-- The six bytes of a word, most significant first (R65). -/
def bytesOfWord (w : Word48) : List Byte :=
  [w.extractLsb' 40 8, w.extractLsb' 32 8, w.extractLsb' 24 8, w.extractLsb' 16 8, w.extractLsb' 8 8, w.extractLsb' 0 8]

/-- The word of a row's bits as spec/opcode_table.json numbers them: bit 0 the least significant bit of the one 48-bit
word (R12, R100), bits from `nbits` up zero. -/
def tableWord (nbits w : Nat) : Word48 := BitVec.ofNat 48 (w % 2 ^ nbits)

/-- The command this decoder reads from a row's bits, laid out as the six bytes of R65. -/
def decodeTableWord (nbits w : Nat) : Option Instr :=
  match decodeBytes (bytesOfWord (tableWord nbits w)) with
  | .ok (i, _) => some i
  | .error _ => none

/-! ### The encoder (R101, R107) -/

/-- The operation code of a command (R107). -/
def Instr.opcode : Instr → Byte
  | .render _ => 0x01#8
  | .tick _ => 0x02#8
  | .noteon _ => 0x03#8
  | .setfreq _ _ => 0x10#8
  | .seten _ _ => 0x11#8
  | .setch0 _ _ => 0x12#8
  | .setch1 _ _ => 0x13#8
  | .setmask _ => 0x20#8
  | .sethcnt _ => 0x21#8
  | .sethvel _ => 0x22#8
  | .setdoff _ => 0x23#8
  | .setdrate _ => 0x24#8
  | .setvdep _ => 0x25#8
  | .setvrate _ => 0x26#8
  | .setatk _ => 0x27#8
  | .setrel _ => 0x28#8

/-- The field `sel` of a command: the channel of class C, zero for class N (R102). -/
def Instr.selBits : Instr → Sel
  | .render _ => 0#8
  | .tick _ => 0#8
  | .noteon _ => 0#8
  | .setfreq ch _ => ch
  | .seten ch _ => ch
  | .setch0 ch _ => ch
  | .setch1 ch _ => ch
  | .setmask _ => 0#8
  | .sethcnt _ => 0#8
  | .sethvel _ => 0#8
  | .setdoff _ => 0#8
  | .setdrate _ => 0#8
  | .setvdep _ => 0#8
  | .setvrate _ => 0#8
  | .setatk _ => 0#8
  | .setrel _ => 0#8

/-- The field `arg` of a command (R103 to R106), reserved bits zero (R111). -/
def Instr.argBits : Instr → Arg
  | .render len => len
  | .tick now => now
  | .noteon now => now
  | .setfreq _ hz => hz
  | .seten _ en => if en then 1#32 else 0#32
  | .setch0 _ hz => hz
  | .setch1 _ hz => hz
  | .setmask mask => 0#28 ++ mask
  | .sethcnt n => n
  | .sethvel v => v
  | .setdoff w => w
  | .setdrate hz => hz
  | .setvdep hz => hz
  | .setvrate hz => hz
  | .setatk seconds => seconds
  | .setrel seconds => seconds

/-- The fields put together (R101). -/
def assemble (op : Byte) (sel : Sel) (arg : Arg) : Word48 := op ++ sel ++ arg

/-- The word of a command (R101, R107). -/
def encode (i : Instr) : Word48 := assemble i.opcode i.selBits i.argBits

end Sys2Proof
end

