-- ==== Sys2Proof/Machine/Constants.lean ====
section
/-! DEFINITION. The constants of the datapath (R9, R10). -/

namespace Sys2Proof.Machine

/-- `W_SINE` (R9). -/
def wSine : Val := 1

/-- `W_SQUARE` (R9). -/
def wSquare : Val := 1 / 4

/-- `W_SAW` (R9). -/
def wSaw : Val := 3 / 10

/-- `W_TRI` (R9). -/
def wTri : Val := 3 / 5

/-- `DECAY` (R9). -/
def decay : Val := 3 / 4

/-- `REVERB_GAIN` (R9). -/
def reverbGain : Val := 1 / 2

/-- `DUTY_CENTRE` (R9). -/
def dutyCentre : Val := 1 / 2

/-- `DUTY_DEPTH` (R9). -/
def dutyDepth : Val := 2 / 5

/-- `INV_TWO_PI` (R10). -/
def invTwoPi : Val := 683565276 / 4294967296

/-- `DECAY^k` by repeated multiplication (R11, R143). -/
def decayPow : Nat → Val
  | 0 => 1
  | k + 1 => decayPow k * decay

end Sys2Proof.Machine
end

