-- ==== Sys2Proof/Machine/Flags.lean ====
section
/-! DEFINITION. The block has no status flags, condition codes, error or sticky bits (R42), so there is no flag
computation. Its one-bit items are parameters: `EN[c]`, a field of Channel, and the four bits of `WMASK` (R27), read here. -/

namespace Sys2Proof.Machine

/-- `WMASK` bit 0: the sine generator is active (R27). -/
def sineOn (mask : BitVec 4) : Bool := mask.getLsbD 0

/-- `WMASK` bit 1: the square generator is active (R27). -/
def squareOn (mask : BitVec 4) : Bool := mask.getLsbD 1

/-- `WMASK` bit 2: the sawtooth generator is active (R27). -/
def sawOn (mask : BitVec 4) : Bool := mask.getLsbD 2

/-- `WMASK` bit 3: the triangle generator is active (R27). -/
def triOn (mask : BitVec 4) : Bool := mask.getLsbD 3

end Sys2Proof.Machine
end

