-- ==== Sys2Proof/Machine/Datapath.lean ====
section
/-! DEFINITION. The pure functions RENDER and TICK are built from (40_datapath_functions.md). Phases are in turns, but for
`cosR`, which takes radians (R15, R134). -/

namespace Sys2Proof.Machine

/-- The fractional part by the floor, so in [0, 1) for negative values too (R130). -/
def frac (v : Val) : Val := v - (Rat.floor v : Val)

/-- The table index of a phase, truncated (R131). -/
def index (t : Val) (size : Nat) : Nat := (Rat.floor (frac t * (size : Val))).toNat

/-- Sine lookup of a phase in turns (R132). -/
def sinT (t : Val) : Val := sinRom (index t Config.nSin)

/-- Cosine lookup of a phase in radians (R134). -/
def cosR (x : Val) : Val := cosRom (index (x * invTwoPi) Config.mCos)

/-- The sine generator (R136). -/
def genSine (t : Val) : Val := sinT t

/-- The square generator; the comparison is strict (R137). -/
def genSquare (t duty : Val) : Val := if frac t < duty then 1 else -1

/-- The sawtooth generator (R138). -/
def genSaw (t : Val) : Val := 2 * frac t - 1

/-- The triangle generator (R139). -/
def genTri (t : Val) : Val := if frac t < 1 / 2 then 4 * frac t - 1 else -4 * frac t + 3

/-- A generator's term, present when its mask bit is set (R140). -/
def gated (on : Bool) (v : Val) : Val := if on then v else 0

/-- The weighted sum of the active generators (R140). -/
def wave (t : Val) (mask : BitVec 4) (duty : Val) : Val :=
  gated (sineOn mask) (wSine * genSine t) + gated (squareOn mask) (wSquare * genSquare t duty)
    + gated (sawOn mask) (wSaw * genSaw t) + gated (triOn mask) (wTri * genTri t)

/-- The harmonic-amplitude array `hamp[0..7]` of a harmonic offset in radians (R142). -/
def hampOf (h : Val) : List Val := (List.range Config.hmax).map fun (k : Nat) => cosR ((k : Val) * h + (k : Val))

/-- The term of harmonic `k` (R143). -/
def harmonicTerm (t : Val) (mask : BitVec 4) (duty : Val) (hamp : List Val) (k : Nat) : Val :=
  wave (((k : Val) + 1) * t) mask duty * hamp.getD k 0 * decayPow k

/-- The fundamental plus its harmonics (R143). `hamp` is read below `hcount` only, which is at most 8 (R43, log 6). -/
def waveHarmonics (t : Val) (mask : BitVec 4) (duty : Val) (hcount : Nat) (hamp : List Val) : Val :=
  ((List.range hcount).map (harmonicTerm t mask duty hamp)).sum

end Sys2Proof.Machine
end

