-- ==== Sys2Proof/Machine/Operands.lean ====
section
/-! DEFINITION. The operand forms (R104 to R106) and the clamps (R11, R232). Forms `e` and `m` are read by the decoder. -/

namespace Sys2Proof.Machine

/-- Form `q`: signed fixed point with 16 fraction bits (R104). -/
def formQ (arg : Arg) : Val := (arg.toInt : Val) / 65536

/-- Form `n`: a signed integer (R106). -/
def formN (arg : Arg) : Int := arg.toInt

/-- Form `len`: a count of samples (R106). -/
def formLen (arg : Arg) : Nat := arg.toNat

/-- `clamp(v, lo, hi)` on values (R11). -/
def clamp (v lo hi : Val) : Val := if v < lo then lo else if hi < v then hi else v

/-- `max(v, 0)` (R11; R200, R211, R212). -/
def clampNonneg (v : Val) : Val := if v < 0 then 0 else v

/-- `clamp(n, 1, 8)` on counts (R11, R205). -/
def clampCount (n : Int) : Nat := if n < 1 then 1 else if 8 < n then 8 else n.toNat

end Sys2Proof.Machine
end

