-- ==== Sys2Proof/Machine/State.lean ====
section
/-! DEFINITION. The state of the block as plain data (10_state.md, 20_memory.md), the reasons a step can stop, and the
state after reset (R46, R260, R261). -/

namespace Sys2Proof.Machine

/-- One synthesis voice (R20): `FREQ[c]` (R21), `EN[c]` (R22), `PP[c]` in turns (R23). -/
structure Channel where
  freq : Val
  en : Bool
  pp : Val
deriving DecidableEq, Repr

/-- The reverb buffer's contents (R60): index and value, indexes strictly rising, no value equal to `Memory.unlisted`
listed (log 5). Its elements are exact rationals, not bytes (R65), so its cells are not `Host.Cell`. -/
abbrev Memory := List (Nat × Val)

/-- An event of the block's life, which is not a command word (R107, R260, R265). -/
inductive Lifecycle where
  /-- `init(sampleRate, blockSize)` (R260); `blockSize` has no effect on the block -/
  | init (sampleRate blockSize : Nat)
  /-- `shutdown(handle)` (R265) -/
  | shutdown
deriving DecidableEq, Repr

/-- The whole state. The registers are those of R46; the last four fields are inputs of the step: the words the two
hosts have issued and the block has not accepted, oldest first (R75, R76), the events not yet taken, oldest first
(R260, R265), and the counter the free arbitration is applied to (log 2). -/
structure State where
  /-- `SR`, fixed by the init event (R8, R260) -/
  sr : Nat
  /-- the channel file (R20) -/
  channels : Vector Channel Config.nch
  /-- `VOLUME` (R26) -/
  volume : Val
  /-- `WMASK` (R27) -/
  wmask : BitVec 4
  /-- `HCOUNT` (R28) -/
  hcount : Nat
  /-- `HOFFSET`, in radians (R29) -/
  hoffset : Val
  /-- `HVEL` (R30) -/
  hvel : Val
  /-- `DUTY` (R31) -/
  duty : Val
  /-- `DOFF` (R32) -/
  doff : Val
  /-- `DRATE` (R33) -/
  drate : Val
  /-- `VDEPTH` (R34) -/
  vdepth : Val
  /-- `VRATE` (R35) -/
  vrate : Val
  /-- `FSHIFT` (R36) -/
  fshift : Val
  /-- `ATTACK` (R37) -/
  attack : Val
  /-- `RELEASE` (R38) -/
  release : Val
  /-- `ENV_START`, a stamp in units of 2^-16 second (R39) -/
  envStart : BitVec 32
  /-- `CURSOR` (R41) -/
  cursor : Nat
  /-- `RB` (R60) -/
  rb : Memory
  /-- the samples the sample port has delivered since reset, oldest first (R13, R17, R83) -/
  out : List Val
  /-- between reset and shutdown (R249, R265) -/
  running : Bool
  /-- words of the render host (R76) -/
  renderQ : List Word48
  /-- words of the control host (R76) -/
  controlQ : List Word48
  /-- events of the block's owner (R260, R265) -/
  lifecycle : List Lifecycle
  /-- how many contested choices the arbiter has made (R76, log 2) -/
  arbSeq : Nat
deriving DecidableEq, Repr

/-- Why the machine could stop with a fault. The block itself has none (R230); both are raised by RENDER only, in states
that no run reaches (R45, R66), before anything is changed. -/
inductive Fault where
  /-- RENDER with samples to produce and `CURSOR` outside `RB` (R41, R68): raised by `execRender`; safe (log 6) -/
  | reverbIndex
  /-- RENDER with samples to produce and `HCOUNT` above `HMAX`, so that `hamp` would be left (R43): raised by
  `execRender`; safe (log 6) -/
  | harmonicIndex
deriving DecidableEq, Repr

/-- Why a step can have no meaning. -/
inductive Refusal where
  /-- an instruction that has no meaning yet: raised by `exec`'s arm of it; safe -/
  | notModelled (mnemonic : String)
  /-- a step of a block that was shut down and has no event to take (R265, U5): raised by `step`; safe (log 4) -/
  | notRunning
  /-- an init with a sample rate below 5, which is no block of the spec (R8, U6): raised by `step`; safe (log 4) -/
  | badSampleRate
deriving DecidableEq, Repr

/-- A channel after reset (R21, R22, R23). -/
def Channel.reset : Channel := { freq := 0, en := true, pp := 0 }

/-- The state the event `init(sr, _)` leaves (R46, R260, R261), with no word or event waiting (log 3, log 4). -/
def State.init (sr : Nat) : State where
  sr := sr
  channels := Vector.replicate Config.nch Channel.reset
  volume := 0
  wmask := 0#4
  hcount := 1
  hoffset := 0
  hvel := 0
  duty := 0
  doff := 0
  drate := 0
  vdepth := 0
  vrate := 0
  fshift := 0
  attack := 0
  release := 0
  envStart := 0#32
  cursor := 0
  rb := []
  out := []
  running := true
  renderQ := []
  controlQ := []
  lifecycle := []
  arbSeq := 0

/-- The machine right after reset, at the instance's open sample rate (R260, log 1). -/
def State.reset : State := State.init Config.sampleRate

end Sys2Proof.Machine
end

