-- ==== Sys2Proof/Machine/Control.lean ====
section
/-! DEFINITION. The control-rate family: TICK, with its four controllers, and NOTEON (42_control.md). -/

namespace Sys2Proof.Machine

/-- The elapsed time in seconds, from the stamps' difference modulo 2^32 (R181). -/
def State.elapsed (now : Arg) (s : State) : Val := ((now - s.envStart).toNat : Val) / 65536

/-- The envelope's volume at an elapsed time (R182); no branch divides by zero. -/
def envelopeAt (attack release elapsed : Val) : Val :=
  if elapsed < attack then elapsed / attack
  else if release = 0 then 0
  else clamp (1 - (elapsed - attack) / release) 0 1

/-- The duty width at an elapsed time (R185). -/
def dutyAt (drate doff elapsed : Val) : Val :=
  if drate = 0 then doff else dutyCentre + dutyDepth * sinT (drate * elapsed)

/-- `attackRelease()` (R182). -/
def State.envelope (e : Val) (s : State) : State := { s with volume := envelopeAt s.attack s.release e }

/-- `vibrato()`, with the table's sine (R183, R186). -/
def State.vibrato (e : Val) (s : State) : State := { s with fshift := s.vdepth * sinT (s.vrate * e) }

/-- `harmonicsDrift()`: once per TICK whatever the time (R184). -/
def State.drift (s : State) : State := { s with hoffset := s.hoffset + s.hvel }

/-- `dutyUpdate()` (R185, R186). -/
def State.dutyUpdate (e : Val) (s : State) : State := { s with duty := dutyAt s.drate s.doff e }

/-- The four controllers with one elapsed time; their order cannot be observed (R181, R187). -/
def State.tick (e : Val) (s : State) : State := (((s.envelope e).vibrato e).drift).dutyUpdate e

/-- TICK now (R180). -/
def execTick (now : Arg) (s : State) : Host.Outcome State Fault Refusal := .next (s.tick (s.elapsed now))

/-- NOTEON now (R190). -/
def execNoteon (now : Arg) (s : State) : Host.Outcome State Fault Refusal := .next { s with envStart := now }

end Sys2Proof.Machine
end

