-- ==== Sys2Proof/Machine/Ops.lean ====
section
/-! DEFINITION. The named operations over the channel file, the reverb buffer and the sample port. The block has no
exceptions: nothing takes one and nothing returns from one (R230, R236, R237). -/

namespace Sys2Proof.Machine

/-! ### The reverb buffer (R60, R61) -/

/-- What an element of `RB` that is not listed holds: its reset value (R60). -/
def Memory.unlisted : Val := 0

/-- The canonical form: indexes strictly rising, no listed value equal to that of an unlisted element. -/
abbrev Memory.wf (m : Memory) : Prop :=
  m.Pairwise (fun a b => a.1 < b.1) ∧ ∀ c ∈ m, c.2 ≠ Memory.unlisted

/-- `RB[j]` (R13). -/
def Memory.read (j : Nat) : Memory → Val
  | [] => Memory.unlisted
  | (k, x) :: m => if k = j then x else Memory.read j m

/-- A cell put before a list, left out when it holds what an unlisted element holds. -/
def Memory.consCell (j : Nat) (v : Val) (m : Memory) : Memory :=
  if v = Memory.unlisted then m else (j, v) :: m

/-- `RB[j] <- v` (R13), keeping the canonical form. -/
def Memory.write (j : Nat) (v : Val) : Memory → Memory
  | [] => Memory.consCell j v []
  | (k, x) :: m =>
    if j < k then Memory.consCell j v ((k, x) :: m)
    else if j = k then Memory.consCell j v m
    else (k, x) :: Memory.write j v m

/-- `RLEN = floor(SR / 5)` (R8). -/
def State.rlen (s : State) : Nat := s.sr / 5

/-- `RB[CURSOR]` (R61, R165). -/
def State.echo (s : State) : Val := Memory.read s.cursor s.rb

/-- `RB[CURSOR] <- v` (R166). -/
def State.storeDry (v : Val) (s : State) : State := { s with rb := Memory.write s.cursor v s.rb }

/-- `CURSOR <- (CURSOR + 1) mod RLEN` (R166). -/
def State.advanceCursor (s : State) : State := { s with cursor := (s.cursor + 1) % s.rlen }

/-- `emit(v)`: the sample port delivers `v` (R13, R83). -/
def State.emit (v : Val) (s : State) : State := { s with out := s.out ++ [v] }

/-! ### The channel file (R20) -/

/-- Change channel `ch`, and nothing where there is no such channel (R112). -/
def State.updChannel (ch : Sel) (f : Channel → Channel) (s : State) : State :=
  if h : ch.toNat < Config.nch then
    { s with channels := s.channels.set ch.toNat (f s.channels[ch.toNat]) h }
  else s

end Sys2Proof.Machine
end

