-- ==== Sys2Proof/Machine/Render.lean ====
section
/-! DEFINITION. The render family: RENDER in the steps A to D of 41_render.md. -/

namespace Sys2Proof.Machine

/-- Step B, the phase increment of a channel in turns per sample (R162). -/
def State.delta (s : State) (c : Channel) : Val := (c.freq + s.fshift) / (s.sr : Val)

/-- Step C1, the phase of a channel at sample `i` (R163). -/
def State.phi (s : State) (c : Channel) (i : Nat) : Val := c.pp + (i : Val) * s.delta c

/-- What one channel adds to the dry mix of sample `i` (R164). -/
def State.voice (s : State) (hamp : List Val) (i : Nat) (c : Channel) : Val :=
  if c.en then waveHarmonics (s.phi c i) s.wmask s.duty s.hcount hamp else 0

/-- Step C2, the dry mix of sample `i` of a RENDER that starts in `s` (R161, R164). -/
def State.mix (s : State) (i : Nat) : Val := (s.channels.toList.map (s.voice (hampOf s.hoffset) i)).sum

/-- Step C3, the output sample of a dry mix: the echo is not scaled by the volume and nothing is clipped (R165). -/
def State.outSample (m : Val) (s : State) : Val := m * s.volume + reverbGain * s.echo

/-- Steps C3 and C4 of one sample: the slot is read before it is written (R61, R165, R166). -/
def State.renderSample (m : Val) (s : State) : State :=
  ((s.emit (s.outSample m)).storeDry m).advanceCursor

/-- Step C: `n` samples from index `i` on, in increasing order, with the dry mixes of the state RENDER started in (R77,
R166). -/
def State.renderLoop (mixes : Nat → Val) : Nat → Nat → State → State
  | 0, _, s => s
  | n + 1, i, s => State.renderLoop mixes n (i + 1) (s.renderSample (mixes i))

/-- Step D of one channel: the phase one sample past the last, kept when disabled (R167). -/
def State.phaseAfter (s : State) (len : Nat) (c : Channel) : Channel :=
  if c.en then { c with pp := frac (s.phi c len) } else c

/-- Step D (R167). -/
def State.writeBack (len : Nat) (s : State) : State := { s with channels := s.channels.map (s.phaseAfter len) }

/-- RENDER's effect: steps A to D in order (R160). The loop leaves all that `phaseAfter` reads as it was (R77). -/
def State.render (len : Nat) (s : State) : State := (State.renderLoop s.mix len 0 s).writeBack len

/-- RENDER L (R160). The two guards stop an access outside `RB` or `hamp`; no state that meets R45 does (log 6). -/
def execRender (len : Arg) (s : State) : Host.Outcome State Fault Refusal :=
  if len = 0#32 then .next (s.render 0)
  else if s.rlen ≤ s.cursor then .fault .reverbIndex
  else if Config.hmax < s.hcount then .fault .harmonicIndex
  else .next (s.render (formLen len))

end Sys2Proof.Machine
end

