-- ==== Sys2Proof/Machine/Setters.lean ====
section
/-! DEFINITION. The setter family (43_setters.md): each writes exactly the registers its rule names. -/

namespace Sys2Proof.Machine

/-! ### Channel setters -/

/-- `FREQ <- max(q(arg), 0)` of one channel (R200). -/
def Channel.withFreq (hz : Arg) (c : Channel) : Channel := { c with freq := clampNonneg (formQ hz) }

/-- `EN <- en` of one channel (R201). -/
def Channel.withEn (en : Bool) (c : Channel) : Channel := { c with en := en }

/-- SETFREQ ch, hz (R200). -/
def execSetfreq (ch : Sel) (hz : Arg) (s : State) : Host.Outcome State Fault Refusal :=
  .next (s.updChannel ch (Channel.withFreq hz))

/-- SETEN ch, en (R201). -/
def execSeten (ch : Sel) (en : Bool) (s : State) : Host.Outcome State Fault Refusal :=
  .next (s.updChannel ch (Channel.withEn en))

/-- SETCH0 ch, hz: frequency and disable together (R202). -/
def execSetch0 (ch : Sel) (hz : Arg) (s : State) : Host.Outcome State Fault Refusal :=
  .next (s.updChannel ch fun c => (c.withFreq hz).withEn false)

/-- SETCH1 ch, hz: frequency and enable together (R203). -/
def execSetch1 (ch : Sel) (hz : Arg) (s : State) : Host.Outcome State Fault Refusal :=
  .next (s.updChannel ch fun c => (c.withFreq hz).withEn true)

/-! ### Config setters -/

/-- SETMASK mask (R204). -/
def execSetmask (mask : BitVec 4) (s : State) : Host.Outcome State Fault Refusal := .next { s with wmask := mask }

/-- SETHCNT n: clamped to [1, 8] (R205). -/
def execSethcnt (n : Arg) (s : State) : Host.Outcome State Fault Refusal := .next { s with hcount := clampCount (formN n) }

/-- SETHVEL v: not clamped (R206). -/
def execSethvel (v : Arg) (s : State) : Host.Outcome State Fault Refusal := .next { s with hvel := formQ v }

/-- SETDOFF w: clamped to [0, 1]; `DUTY` follows at the next TICK (R207). -/
def execSetdoff (w : Arg) (s : State) : Host.Outcome State Fault Refusal := .next { s with doff := clamp (formQ w) 0 1 }

/-- SETDRATE hz: not clamped (R208). -/
def execSetdrate (hz : Arg) (s : State) : Host.Outcome State Fault Refusal := .next { s with drate := formQ hz }

/-- SETVDEP hz: not clamped (R209). -/
def execSetvdep (hz : Arg) (s : State) : Host.Outcome State Fault Refusal := .next { s with vdepth := formQ hz }

/-- SETVRATE hz: not clamped (R210). -/
def execSetvrate (hz : Arg) (s : State) : Host.Outcome State Fault Refusal := .next { s with vrate := formQ hz }

/-- SETATK seconds: a negative duration is clamped to 0 (R211). -/
def execSetatk (seconds : Arg) (s : State) : Host.Outcome State Fault Refusal :=
  .next { s with attack := clampNonneg (formQ seconds) }

/-- SETREL seconds: a negative duration is clamped to 0 (R212). -/
def execSetrel (seconds : Arg) (s : State) : Host.Outcome State Fault Refusal :=
  .next { s with release := clampNonneg (formQ seconds) }

end Sys2Proof.Machine
end

