-- ==== Sys2Proof/Machine/Dispatch.lean ====
section
/-! DEFINITION. One arm per command (R107): the direct call of its meaning. -/

namespace Sys2Proof.Machine

def exec (i : Instr) (s : State) : Host.Outcome State Fault Refusal :=
  match i with
  -- render family
  | .render len => Sys2Proof.Machine.execRender len s
  -- control-rate family
  | .tick now => Sys2Proof.Machine.execTick now s
  | .noteon now => Sys2Proof.Machine.execNoteon now s
  -- channel setters
  | .setfreq ch hz => Sys2Proof.Machine.execSetfreq ch hz s
  | .seten ch en => Sys2Proof.Machine.execSeten ch en s
  | .setch0 ch hz => Sys2Proof.Machine.execSetch0 ch hz s
  | .setch1 ch hz => Sys2Proof.Machine.execSetch1 ch hz s
  -- Config setters
  | .setmask mask => Sys2Proof.Machine.execSetmask mask s
  | .sethcnt n => Sys2Proof.Machine.execSethcnt n s
  | .sethvel v => Sys2Proof.Machine.execSethvel v s
  | .setdoff w => Sys2Proof.Machine.execSetdoff w s
  | .setdrate hz => Sys2Proof.Machine.execSetdrate hz s
  | .setvdep hz => Sys2Proof.Machine.execSetvdep hz s
  | .setvrate hz => Sys2Proof.Machine.execSetvrate hz s
  | .setatk seconds => Sys2Proof.Machine.execSetatk seconds s
  | .setrel seconds => Sys2Proof.Machine.execSetrel seconds s

end Sys2Proof.Machine
end

