-- ==== Sys2Proof/Machine/Port.lean ====
section
/-! DEFINITION. The command port and its two hosts (20_memory.md R75 to R77), and the events init and shutdown (R260,
R265). What the block's next step works on is chosen here; Accept.lean executes it. -/

namespace Sys2Proof.Machine

/-! ### What the outside does -/

/-- A host issues a word (R2, R76): it waits behind the host's earlier words. -/
def State.present (h : HostId) (w : Word48) (s : State) : State :=
  match h with
  | .render => { s with renderQ := s.renderQ ++ [w] }
  | .control => { s with controlQ := s.controlQ ++ [w] }

/-- The block's owner asks for init or shutdown (R260, R265). -/
def State.request (e : Lifecycle) (s : State) : State := { s with lifecycle := s.lifecycle ++ [e] }

/-! ### What the block takes next -/

/-- What a step works on: a word of a host, an event, nothing, or nothing because the block is shut down. -/
inductive Selection where
  | word (h : HostId) (w : Word48) (rest : State)
  | event (e : Lifecycle) (rest : State)
  | idle
  | stopped
deriving DecidableEq, Repr

/-- The render host's words without the one taken. -/
def State.takeRender (q : List Word48) (s : State) : State := { s with renderQ := q }

/-- The control host's words without the one taken. -/
def State.takeControl (q : List Word48) (s : State) : State := { s with controlQ := q }

/-- The arbiter has made one more contested choice (R76, log 2). -/
def State.countChoice (s : State) : State := { s with arbSeq := s.arbSeq + 1 }

/-- The oldest event, if there is one. -/
def State.selectEvent (none : Selection) (s : State) : Selection :=
  match s.lifecycle with
  | [] => none
  | e :: es => .event e { s with lifecycle := es }

/-- The arbiter (R75, R76): the oldest word of a host that presents one, of a host the spec leaves open when both do.
Events wait until no word is pending, as R265 says of shutdown (log 4). A block that is shut down accepts no word. -/
def State.select (s : State) : Selection :=
  if s.running then
    match s.renderQ, s.controlQ with
    | [], [] => s.selectEvent .idle
    | r :: rs, [] => .word .render r (s.takeRender rs)
    | [], c :: cs => .word .control c (s.takeControl cs)
    | r :: rs, c :: cs =>
      match Config.arbiter s.arbSeq with
      | .render => .word .render r (s.takeRender rs).countChoice
      | .control => .word .control c (s.takeControl cs).countChoice
  else s.selectEvent .stopped

/-- An event's effect on the state without it. init is a fresh reset at its rate, whatever came before (R260, R265); the
events still waiting and the free values' counter are not the block's and stay. shutdown ends the run (R265). -/
def State.applyEvent (e : Lifecycle) (s : State) : Host.Outcome State Fault Refusal :=
  match e with
  | .init rate _ =>
    if Config.srMin ≤ rate then .next { State.init rate with lifecycle := s.lifecycle, arbSeq := s.arbSeq }
    else .refused .badSampleRate
  | .shutdown => .next { s with running := false }

/-- The state whose very next step takes the word `w`: it is the control host's oldest word, no word of the render host
competes with it, and the block runs (log 8). -/
def State.placeWord (w : Word48) (s : State) : State :=
  { s with running := true, renderQ := [], controlQ := w :: s.controlQ }

end Sys2Proof.Machine
end

