-- ==== Sys2Proof/Machine/Accept.lean ====
section
/-! DEFINITION. Executing an accepted word to completion (R75); an ILLEGAL word is accepted and does nothing (R113). -/

namespace Sys2Proof.Machine

/-- One accepted word (R75, R113). -/
def acceptWord (w : Word48) (s : State) : Host.Outcome State Fault Refusal :=
  match decode w with
  | .ok i => exec i s
  | .error _ => .next s

/-- What was selected, carried out. A running block with nothing presented waits, unchanged (R75, log 3). -/
def carryOut (s : State) : Selection → Host.Outcome State Fault Refusal
  | .word _ w rest => acceptWord w rest
  | .event e rest => rest.applyEvent e
  | .idle => .next s
  | .stopped => .refused .notRunning

end Sys2Proof.Machine
end

