-- ==== Sys2Proof/Machine/Assembler.lean ====
section
/-! DEFINITION. The assembler's exactness rule for operands (R116) and the pseudo-commands (R117). AsmText.lean reads the
text of a line. -/

namespace Sys2Proof.Machine

/-- A `q` operand: exactly a multiple of 2^-16 in range, else an assembly error (R104, R116). -/
def asmQ (v : Val) : Option Arg :=
  let n := v * 65536
  if n.den = 1 ∧ -2147483648 ≤ n.num ∧ n.num ≤ 2147483647 then some (BitVec.ofInt 32 n.num) else none

/-- A `t` operand written in seconds, under the same exactness rule (R105, R116). -/
def asmSeconds (v : Val) : Option Arg :=
  let n := v * 65536
  if n.den = 1 ∧ 0 ≤ n.num ∧ n.num ≤ 4294967295 then some (BitVec.ofInt 32 n.num) else none

/-- The pseudo-commands that are no plain renaming of a command (R117). -/
inductive Pseudo where
  /-- `SETCH i, b, hz` -/
  | setch (ch : Sel) (en : Bool) (hz : Arg)
  /-- `FORCEVOL1 now`, used with `RELEASE` above 0 already set (R187) -/
  | forcevol1 (now : Arg)
deriving DecidableEq, Repr

/-- The commands a pseudo-command stands for (R117). -/
def Pseudo.expand : Pseudo → List Instr
  | .setch ch en hz => [if en then .setch1 ch hz else .setch0 ch hz]
  | .forcevol1 now => [.setatk 0#32, .noteon now, .tick now]

end Sys2Proof.Machine
end

