-- ==== Sys2Proof/Machine/AsmText.lean ====
section
/-! DEFINITION. The text of an assembler line (R116, R117). The block never sees it: a line stands for words. What R116 leaves
open of a line is chosen in log 9. `none` is an assembly error. -/

namespace Sys2Proof.Machine

/-! ### Numbers -/

/-- The value of a digit, of either case for the hexadecimal ones. -/
def digitVal (c : Char) : Option Nat :=
  let n := c.toNat
  if 48 ≤ n ∧ n ≤ 57 then some (n - 48)
  else if 65 ≤ n ∧ n ≤ 70 then some (n - 55)
  else if 97 ≤ n ∧ n ≤ 102 then some (n - 87)
  else none

/-- One more digit after those read. -/
def pushDigit (base : Nat) (acc : Option Nat) (c : Char) : Option Nat :=
  match acc, digitVal c with
  | some n, some d => if d < base then some (n * base + d) else none
  | _, _ => none

/-- A non-empty run of digits. -/
def readDigits (base : Nat) (cs : List Char) : Option Nat :=
  if cs = [] then none else cs.foldl (pushDigit base) (some 0)

/-- A decimal or hexadecimal integer. -/
def readInt : List Char → Option Nat
  | '0' :: 'x' :: cs => readDigits 16 cs
  | cs => readDigits 10 cs

/-- A binary, decimal or hexadecimal integer. -/
def readBits : List Char → Option Nat
  | '0' :: 'b' :: cs => readDigits 2 cs
  | cs => readInt cs

/-- The text before and after the first `c`. -/
def cutAt (c : Char) : List Char → Option (List Char × List Char)
  | [] => none
  | x :: xs => if x = c then some ([], xs) else (cutAt c xs).map fun p => (x :: p.1, p.2)

/-- A decimal number, with or without a fraction part. -/
def readDecimal (cs : List Char) : Option Val :=
  match cutAt '.' cs with
  | none => (readDigits 10 cs).map fun n => (n : Val)
  | some (a, b) =>
    match readDigits 10 a, readDigits 10 b with
    | some n, some m => some ((n : Val) + (m : Val) / ((10 ^ b.length : Nat) : Val))
    | _, _ => none

/-- A decimal number or a fraction `a/b`. -/
def readRational (cs : List Char) : Option Val :=
  match cutAt '/' cs with
  | none => readDecimal cs
  | some (a, b) =>
    match readDigits 10 a, readDigits 10 b with
    | some n, some m => if m = 0 then none else some ((n : Val) / (m : Val))
    | _, _ => none

/-! ### Operands (R116) -/

/-- Below a bound. -/
def bounded (bound : Nat) (n : Option Nat) : Option Nat := n.filter (· < bound)

/-- A `q` operand. -/
def readQ : List Char → Option Arg
  | '-' :: cs => (readRational cs).bind fun v => asmQ (-v)
  | cs => (readRational cs).bind asmQ

/-- A `len` operand, and a `t` operand written as a count of stamps. -/
def readLen (cs : List Char) : Option Arg := (bounded (2 ^ 32) (readInt cs)).map (BitVec.ofNat 32)

/-- A `t` operand: a count of stamps, or seconds with the suffix `s`. -/
def readT (cs : List Char) : Option Arg :=
  if cs.getLast? = some 's' then (readDecimal cs.dropLast).bind asmSeconds else readLen cs

/-- An `n` operand, of either sign. -/
def readN : List Char → Option Arg
  | '-' :: cs => (bounded (2 ^ 31 + 1) (readInt cs)).map fun n => BitVec.ofInt 32 (-(n : Int))
  | cs => (bounded (2 ^ 31) (readInt cs)).map (BitVec.ofNat 32)

/-- An `e` operand. -/
def readE : List Char → Option Bool
  | ['0'] => some false
  | ['1'] => some true
  | _ => none

/-- An `m` operand. -/
def readM (cs : List Char) : Option (BitVec 4) := (bounded 16 (readBits cs)).map (BitVec.ofNat 4)

/-- A channel index. -/
def readCh (cs : List Char) : Option Sel := (bounded Config.nch (readInt cs)).map (BitVec.ofNat 8)

/-! ### Lines -/

/-- The reader of what stands behind a mnemonic. -/
abbrev LineReader := List (List Char) → Option (List Word48)

/-- A class N command. -/
def lineN {α : Type} (read : List Char → Option α) (mk : α → Instr) : LineReader
  | [a] => (read a).map fun v => [encode (mk v)]
  | _ => none

/-- A class C command: the channel index first. -/
def lineC {α : Type} (read : List Char → Option α) (mk : Sel → α → Instr) : LineReader
  | [c, a] =>
    match readCh c, read a with
    | some ch, some v => some [encode (mk ch v)]
    | _, _ => none
  | _ => none

/-- `SETCH i, b, hz` (R117). -/
def lineSetch : LineReader
  | [c, b, a] =>
    match readCh c, readE b, readQ a with
    | some ch, some en, some hz => some ((Pseudo.setch ch en hz).expand.map encode)
    | _, _, _ => none
  | _ => none

/-- `FORCEVOL1 now` (R117). -/
def lineForcevol1 : LineReader
  | [a] => (readT a).map fun now => (Pseudo.forcevol1 now).expand.map encode
  | _ => none

/-- `.word`, a raw word. -/
def lineWord : LineReader
  | [a] => (bounded (2 ^ 48) (readInt a)).map fun n => [BitVec.ofNat 48 n]
  | _ => none

/-- What a line's first word selects: the mnemonic of R107 or the source's own name of R117. -/
def lineReaders : List (List String × LineReader) :=
  [(["RENDER", "renderBlock"], lineN readLen .render),
   (["TICK", "tick"], lineN readT .tick),
   (["NOTEON", "noteOn", "resetEnvelope"], lineN readT .noteon),
   (["SETFREQ", "setChannelFrequency"], lineC readQ .setfreq),
   (["SETEN", "setChannelEnabled"], lineC readE .seten),
   (["SETCH0"], lineC readQ .setch0),
   (["SETCH1"], lineC readQ .setch1),
   (["SETMASK", "setWaveformMask"], lineN readM .setmask),
   (["SETHCNT", "setHarmonicCount"], lineN readN .sethcnt),
   (["SETHVEL", "setHarmonicVelocity"], lineN readQ .sethvel)] ++
  [(["SETDOFF", "setDutyOffset"], lineN readQ .setdoff),
   (["SETDRATE", "setDutyModRate"], lineN readQ .setdrate),
   (["SETVDEP", "setVibratoDepth"], lineN readQ .setvdep),
   (["SETVRATE", "setVibratoRate"], lineN readQ .setvrate),
   (["SETATK", "setAttack"], lineN readQ .setatk),
   (["SETREL", "setRelease"], lineN readQ .setrel),
   (["SETCH"], lineSetch),
   (["FORCEVOL1"], lineForcevol1),
   ([".word"], lineWord)]

/-- A space or a tab. -/
def isBlank (c : Char) : Bool := c == ' ' || c == '\t'

/-- Without blanks at both ends. -/
def trimBlanks (cs : List Char) : List Char := ((cs.dropWhile isBlank).reverse.dropWhile isBlank).reverse

/-- The texts between commas. -/
def splitCommas : List Char → List (List Char)
  | [] => [[]]
  | x :: xs =>
    if x = ',' then [] :: splitCommas xs
    else
      match splitCommas xs with
      | [] => [[x]]
      | y :: ys => (x :: y) :: ys

/-- The operands behind a mnemonic. -/
def operandTexts (cs : List Char) : List (List Char) :=
  if trimBlanks cs = [] then [] else (splitCommas cs).map trimBlanks

/-- The words a line stands for: none for a line without a command, which may hold a comment behind `;` (R116). -/
def assembleLine (line : String) : Option (List Word48) :=
  let text := trimBlanks (line.toList.takeWhile (· ≠ ';'))
  if text = [] then some []
  else
    let name := text.takeWhile fun c => !isBlank c
    match lineReaders.find? fun r => r.1.any fun n => n.toList = name with
    | none => none
    | some r => r.2 (operandTexts (text.dropWhile fun c => !isBlank c))

end Sys2Proof.Machine
end

