-- ==== Sys2Proof/Safety.lean ====
section
/-! DEFINITION. What every reachable state of the block satisfies, in the terms the statements use (R45, and the value sets
of 10_state.md), and what a safe step is (R230). -/

namespace Sys2Proof

open Sys2Proof.Machine

/-- A value in [0, 1]. -/
def InUnit (v : Val) : Prop := 0 ≤ v ∧ v ≤ 1

/-- What R45 says of one channel. -/
structure ChannelInv (c : Channel) : Prop where
  freq_nonneg : 0 ≤ c.freq
  pp_nonneg : 0 ≤ c.pp
  pp_lt_one : c.pp < 1

/-- The reverb buffer is in canonical form and lists indexes below `RLEN` only (R60). -/
structure BufferInv (rlen : Nat) (m : Memory) : Prop where
  wf : Memory.wf m
  in_range : ∀ c ∈ m, c.1 < rlen

/-- The invariant of R45, with the constraint on `SR` (R8) and the form of `RB`. -/
structure Inv (s : State) : Prop where
  sr_ge : Config.srMin ≤ s.sr
  channels : ∀ c ∈ s.channels.toList, ChannelInv c
  volume : InUnit s.volume
  hcount_pos : 1 ≤ s.hcount
  hcount_le : s.hcount ≤ Config.hmax
  duty : InUnit s.duty
  doff : InUnit s.doff
  attack : 0 ≤ s.attack
  release : 0 ≤ s.release
  cursor : s.cursor < s.rlen
  rb : BufferInv s.rlen s.rb

/-- A multiple of 2^-16. -/
def OnGrid (v : Val) : Prop := ∃ z : Int, v = (z : Val) / 65536

/-- The value set of an unclamped register of form `q` (R30, R33): a multiple of 2^-16 in [-32768, 32768 - 2^-16]. -/
def InQ (v : Val) : Prop := OnGrid v ∧ -32768 ≤ v ∧ v ≤ 32768 - 1 / 65536

/-- The value sets that 10_state.md derives from the operand format (R21, R29, R30, R32 to R38). `|FSHIFT| ≤ |VDEPTH|` of
R36 holds right after a TICK only, so here `FSHIFT` is bounded by the format's largest magnitude. -/
structure ValueSets (s : State) : Prop where
  freq : ∀ c ∈ s.channels.toList, InQ c.freq ∧ 0 ≤ c.freq
  hoffset : OnGrid s.hoffset
  hvel : InQ s.hvel
  doff : OnGrid s.doff ∧ InUnit s.doff
  drate : InQ s.drate
  vdepth : InQ s.vdepth
  vrate : InQ s.vrate
  fshift : (∃ z : Int, s.fshift = (z : Val) / 4294967296) ∧ -32768 ≤ s.fshift ∧ s.fshift ≤ 32768
  attack : InQ s.attack ∧ 0 ≤ s.attack
  release : InQ s.release ∧ 0 ≤ s.release

/-- A step that does not fault (R230). -/
def Safe (s : State) : Prop := ∀ f, step s ≠ .fault f

/-- Words executed one after the other, in command order (R75), up to the first that stops. -/
def acceptAll : List Word48 → State → Host.Outcome State Fault Refusal
  | [], s => .next s
  | w :: ws, s =>
    match acceptWord w s with
    | .next t => acceptAll ws t
    | .fault f => .fault f
    | .refused r => .refused r

/-- Commands executed one after the other (R75), up to the first that stops. -/
def execAll : List Instr → State → Host.Outcome State Fault Refusal
  | [], s => .next s
  | i :: is, s =>
    match exec i s with
    | .next t => execAll is t
    | .fault f => .fault f
    | .refused r => .refused r

/-- `ws` interleaves the two hosts' words and keeps each host's own order (R76). -/
inductive Interleaves : List Word48 → List Word48 → List Word48 → Prop where
  | nil : Interleaves [] [] []
  | render (w : Word48) {rs cs ws : List Word48} : Interleaves rs cs ws → Interleaves (w :: rs) cs (w :: ws)
  | control (w : Word48) {rs cs ws : List Word48} : Interleaves rs cs ws → Interleaves rs (w :: cs) (w :: ws)

end Sys2Proof
end

