-- ==== Sys2Proof/Certificates/Slice0/Obligations.lean ====
section
/-! DEFINITION. The statements for the provers. Each docstring names the rules it formalises. Statements about RENDER hold in
states no run reaches too: their premises are the bounds of R45 they need (`Inv` is stated to hold at reset and to be kept). -/

open Sys2Proof Sys2Proof.Machine

/-! ## Encoding and decoding -/

/-- Words written out in the rules decode to the commands they stand for: one of each opcode, and the reserved all-zero
word (R114). Sources: the examples of R160, R180, R190, R200 to R212. -/
def Obligations.WordsOfTheRulesDecode : Prop :=
  decode 0x010000000003#48 = .ok (.render 3#32) ∧
  decode 0x020000104000#48 = .ok (.tick 0x00104000#32) ∧
  decode 0x030000100000#48 = .ok (.noteon 0x00100000#32) ∧
  decode 0x100201B80000#48 = .ok (.setfreq 2#8 0x01B80000#32) ∧
  decode 0x110100000000#48 = .ok (.seten 1#8 false) ∧
  decode 0x120300000000#48 = .ok (.setch0 3#8 0#32) ∧
  decode 0x1301000A0000#48 = .ok (.setch1 1#8 0x000A0000#32) ∧
  decode 0x20000000000F#48 = .ok (.setmask 15#4) ∧
  decode 0x210000000005#48 = .ok (.sethcnt 5#32) ∧
  decode 0x220000002000#48 = .ok (.sethvel 0x2000#32) ∧
  decode 0x230000004000#48 = .ok (.setdoff 0x4000#32) ∧
  decode 0x240000008000#48 = .ok (.setdrate 0x8000#32) ∧
  decode 0x2500FFFB0000#48 = .ok (.setvdep 0xFFFB0000#32) ∧
  decode 0x260000020000#48 = .ok (.setvrate 0x20000#32) ∧
  decode 0x270000008000#48 = .ok (.setatk 0x8000#32) ∧
  decode 0x280040000000#48 = .ok (.setrel 0x40000000#32) ∧
  decode 0#48 = .error (.reservedOpcode 0#8)

/-- Decoding the encoding of a well-formed command gives it back, for every command and every operand (R101, R107). -/
def Obligations.EncodedCommandDecodesToItself : Prop :=
  ∀ i : Instr, i.wellFormed = true → decode (encode i) = .ok i

/-- A legal word is the encoding of the command it decodes to, so each command has one word (R101, R107). -/
def Obligations.DecodedWordIsItsEncoding : Prop :=
  ∀ (w : Word48) (i : Instr), decode w = .ok i → i.wellFormed = true ∧ encode i = w

/-- The words R110 calls commands. -/
def Sys2Proof.LegalWord (w : Word48) : Prop :=
  (((opField w).toNat ∈ [0x10, 0x11, 0x12, 0x13] ∧ (selField w).toNat < 5) ∨
    ((opField w).toNat ∈ [0x01, 0x02, 0x03, 0x20, 0x21, 0x22, 0x23, 0x24, 0x25, 0x26, 0x27, 0x28] ∧
      (selField w).toNat = 0)) ∧
  ((opField w).toNat = 0x11 → (argField w).toNat < 2) ∧
  ((opField w).toNat = 0x20 → (argField w).toNat < 16)

/-- R110, R111, R112, R114: decoding is total; it yields the command of the word's `op`, with its `sel` and all significant
bits of its `arg`, exactly on the legal words, and ILLEGAL on every other. -/
def Obligations.DecodingYieldsTheCommandOrIllegal : Prop :=
  ∀ w : Word48,
    (∃ i, decode w = .ok i ∧ LegalWord w ∧ i.opcode = opField w ∧ i.selBits = selField w ∧ i.argBits = argField w) ∨
    (∃ e, decode w = .error e ∧ ¬ LegalWord w)

/-- The rows of spec/opcode_table.json: match, mask, and whether the constraint `sel < 5` holds too (R118). -/
def Sys2Proof.opcodeRows : List (Word48 × Word48 × Bool) :=
  [(0x010000000000#48, 0xFFFF00000000#48, false), (0x020000000000#48, 0xFFFF00000000#48, false),
   (0x030000000000#48, 0xFFFF00000000#48, false), (0x100000000000#48, 0xFFF800000000#48, true),
   (0x110000000000#48, 0xFFF8FFFFFFFE#48, true), (0x120000000000#48, 0xFFF800000000#48, true),
   (0x130000000000#48, 0xFFF800000000#48, true), (0x200000000000#48, 0xFFFFFFFFFFF0#48, false)] ++
  [(0x210000000000#48, 0xFFFF00000000#48, false), (0x220000000000#48, 0xFFFF00000000#48, false),
   (0x230000000000#48, 0xFFFF00000000#48, false), (0x240000000000#48, 0xFFFF00000000#48, false),
   (0x250000000000#48, 0xFFFF00000000#48, false), (0x260000000000#48, 0xFFFF00000000#48, false),
   (0x270000000000#48, 0xFFFF00000000#48, false), (0x280000000000#48, 0xFFFF00000000#48, false)]

/-- A word selects a row (R118). -/
def Sys2Proof.Selects (w : Word48) (row : Word48 × Word48 × Bool) : Prop :=
  w &&& row.2.1 = row.1 ∧ (row.2.2 = true → (selField w).toNat < 5)

/-- R118: a word selects a row exactly when it decodes to the command of that row's `op`, and a word that selects no row is
ILLEGAL. -/
def Obligations.OpcodeTableRowsSelectCommands : Prop :=
  ∀ w : Word48,
    (∀ row ∈ opcodeRows, Selects w row ↔ ∃ i, decode w = .ok i ∧ i.opcode = opField row.1) ∧
    ((∀ row ∈ opcodeRows, ¬ Selects w row) → ∃ e, decode w = .error e)

/-- The serial form of R65: six bytes, `op` first, then `sel`, then `arg` from its most to its least significant byte; the
decoder reads them back and leaves the bytes behind them; fewer than six bytes are no word. -/
def Obligations.SerialWordIsSixBytesMostSignificantFirst : Prop :=
  (∀ w : Word48, bytesOfWord w =
    [opField w, selField w, (argField w).extractLsb' 24 8, (argField w).extractLsb' 16 8, (argField w).extractLsb' 8 8,
      (argField w).extractLsb' 0 8]) ∧
  (∀ (w : Word48) (rest : List Byte), decodeBytes (bytesOfWord w ++ rest) =
    match decode w with
    | .ok i => .ok (i, rest)
    | .error e => .error e) ∧
  (∀ bytes : List Byte, bytes.length < 6 → decodeBytes bytes = .error .truncated)

/-- The exactness rule of R116 on the form of R104: a `q` operand is spelled by exactly the values its form denotes, and a
`t` operand in seconds by exactly the stamps of R105. -/
def Obligations.AssemblerOperandsAreExact : Prop :=
  (∀ (v : Val) (a : Arg), asmQ v = some a ↔ formQ a = v) ∧
  (∀ (v : Val) (a : Arg), asmSeconds v = some a ↔ (a.toNat : Val) / 65536 = v)

/-- Lines written out in R116, R117 and the rules of the commands assemble to their words; an operand that is no multiple of
2^-16 and an unknown mnemonic are assembly errors. -/
def Obligations.AssemblerReadsTheRulesLines : Prop :=
  assembleLine "SETCH1 0, 5" = some [0x130000050000#48] ∧
  assembleLine ".word 0x130000050000" = some [0x130000050000#48] ∧
  assembleLine "RENDER 3 ; three samples" = some [0x010000000003#48] ∧
  assembleLine "TICK 0x00104000" = some [0x020000104000#48] ∧
  assembleLine "TICK 16.25s" = some [0x020000104000#48] ∧
  assembleLine "SETFREQ 2, 440" = some [0x100201B80000#48] ∧
  assembleLine "SETMASK 0b0001" = some [0x200000000001#48] ∧
  assembleLine "SETHVEL 1/8" = some [0x220000002000#48] ∧
  assembleLine "SETVDEP -5" = some [0x2500FFFB0000#48] ∧
  assembleLine "setRelease 16384" = some [0x280040000000#48] ∧
  assembleLine "SETCH 3, 0, 0" = some [0x120300000000#48] ∧
  assembleLine "FORCEVOL1 0" = some [0x270000000000#48, 0x030000000000#48, 0x020000000000#48] ∧
  assembleLine "SETHVEL 0.1" = none ∧
  assembleLine "NOP" = none

/-! ## The command port -/

/-- A step of a running block runs the oldest word of the host that presents one; where both do, of the host the arbiter
picks (R75, R76). What the step adds around `exec` is taking the word, and counting a contested choice (log 2). The last
clause is `withFetchWord` (log 8). -/
def Obligations.StepRunsTheAcceptedCommand : Prop :=
  ∀ (s : State) (w w' : Word48) (q q' : List Word48) (i j : Instr),
    decode w = .ok i → decode w' = .ok j →
    (s.running = true → s.renderQ = w :: q → s.controlQ = [] → step s = exec i { s with renderQ := q }) ∧
    (s.running = true → s.controlQ = w :: q → s.renderQ = [] → step s = exec i { s with controlQ := q }) ∧
    (s.running = true → s.renderQ = w :: q → s.controlQ = w' :: q' →
      step s =
        match Config.arbiter s.arbSeq with
        | .render => exec i { s with renderQ := q, arbSeq := s.arbSeq + 1 }
        | .control => exec j { s with controlQ := q', arbSeq := s.arbSeq + 1 }) ∧
    (∀ nbits n, tableWord nbits n = w →
      step (s.withFetchWord nbits n) = exec i { s with running := true, renderQ := [] })

/-- R113: an ILLEGAL word is accepted, takes its place in the command order, and changes nothing: no register, no memory,
no sample. -/
def Obligations.IllegalWordIsAcceptedAndDoesNothing : Prop :=
  ∀ (s : State) (w : Word48) (q : List Word48) (e : Illegal), decode w = .error e →
    acceptWord w s = .next s ∧
    (s.running = true → s.renderQ = w :: q → s.controlQ = [] → step s = .next { s with renderQ := q }) ∧
    (s.running = true → s.controlQ = w :: q → s.renderQ = [] → step s = .next { s with controlQ := q })

/-- R76, R235: when both hosts present a word, the step takes the oldest of one of them and leaves the other's waiting;
which one is left open. -/
def Obligations.ArbiterTakesOneHostsOldestWord : Prop :=
  ∀ (s : State) (r c : Word48) (rs cs : List Word48),
    s.running = true → s.renderQ = r :: rs → s.controlQ = c :: cs →
    step s = acceptWord r { s with renderQ := rs, arbSeq := s.arbSeq + 1 } ∨
    step s = acceptWord c { s with controlQ := cs, arbSeq := s.arbSeq + 1 }

/-- R240: the block does not know which host sent a word and treats it the same. -/
def Obligations.SendingHostIsInvisible : Prop :=
  ∀ (s : State) (w : Word48), s.running = true → s.renderQ = [] → s.controlQ = [] →
    step (s.present .render w) = step (s.present .control w)

/-- R75, R76: as many steps as there are words waiting execute, word by word, some interleaving of the two hosts' words that
keeps each host's order. `k` is where the model's choice counter ends (log 2); no command reads it. -/
def Obligations.RunExecutesSomeInterleaving : Prop :=
  ∀ s : State, s.running = true →
    ∃ (ws : List Word48) (k : Nat), Interleaves s.renderQ s.controlQ ws ∧
      core.run (s.renderQ.length + s.controlQ.length) s =
        acceptAll ws { s with renderQ := [], controlQ := [], arbSeq := k }

/-- R76, R78: every issued word is eventually accepted: after as many steps as words are waiting none is, and no step of
these stopped. -/
def Obligations.EveryIssuedWordIsAccepted : Prop :=
  ∀ s : State, Inv s → s.running = true →
    ∃ t, core.run (s.renderQ.length + s.controlQ.length) s = .next t ∧
      t.renderQ = [] ∧ t.controlQ = [] ∧ t.running = true ∧ Inv t

/-- What the model does with nothing presented (log 3) and after a shutdown (R265, U5, log 4): a running block waits
unchanged; a block that is shut down accepts no word. -/
def Obligations.IdleBlockWaitsAndStoppedBlockRefuses : Prop :=
  (∀ s : State, s.running = true → s.renderQ = [] → s.controlQ = [] → s.lifecycle = [] → step s = .next s) ∧
  (∀ s : State, s.running = false → s.lifecycle = [] → step s = .refused .notRunning)

/-- R265, with the model's order of events and words (log 4): shutdown waits until no word is pending; then it ends the
run, the samples delivered stay as they are, and no word presented later is accepted. -/
def Obligations.ShutdownEndsTheRun : Prop :=
  ∀ s : State, s.running = true → s.lifecycle = [.shutdown] →
    (s.renderQ = [] → s.controlQ = [] →
      ∃ t, step s = .next t ∧ t.running = false ∧ t.out = s.out ∧
        ∀ (h : HostId) (w : Word48), step (t.present h w) = .refused .notRunning) ∧
    (s.renderQ ≠ [] ∨ s.controlQ ≠ [] → ∀ t, step s = .next t → t.running = true ∧ t.lifecycle = [.shutdown])

/-- R260, R265: init is a fresh reset at the given rate, whatever the state was; the block size has no effect; a rate below 5
is no block of the spec (U6, log 4). -/
def Obligations.InitIsAFreshReset : Prop :=
  ∀ (s : State) (rate blockSize : Nat) (es : List Lifecycle),
    s.lifecycle = .init rate blockSize :: es → (s.running = true → s.renderQ = [] ∧ s.controlQ = []) →
    (5 ≤ rate → step s = .next { State.init rate with lifecycle := es, arbSeq := s.arbSeq }) ∧
    (rate < 5 → step s = .refused .badSampleRate)

/-! ## Reset -/

/-- The reset values of R46, at any sample rate; the rate itself is open and at least 5 (R8, log 1); that no word and no
event waits is the model's (log 3, log 4). -/
def Obligations.ResetValues : Prop :=
  State.reset = State.init Config.sampleRate ∧ 5 ≤ Config.sampleRate ∧
  ∀ rate : Nat,
    let s := State.init rate
    s.sr = rate ∧
    (∀ c : Fin 5, s.channels[c].freq = 0 ∧ s.channels[c].en = true ∧ s.channels[c].pp = 0) ∧
    s.volume = 0 ∧ s.wmask = 0#4 ∧ s.hcount = 1 ∧ s.hoffset = 0 ∧ s.hvel = 0 ∧ s.duty = 0 ∧ s.doff = 0 ∧
    s.drate = 0 ∧ s.vdepth = 0 ∧ s.vrate = 0 ∧ s.fshift = 0 ∧ s.attack = 0 ∧ s.release = 0 ∧ s.envStart = 0#32 ∧
    s.cursor = 0 ∧ (∀ j, Memory.read j s.rb = 0) ∧ s.out = [] ∧ s.running = true ∧
    s.renderQ = [] ∧ s.controlQ = [] ∧ s.lifecycle = []

/-- R261: right after reset a RENDER emits zeros; nothing but the sample port and `CURSOR` changes. -/
def Obligations.RenderAfterResetEmitsZeros : Prop :=
  ∀ (rate : Nat) (len : Arg), 5 ≤ rate →
    exec (.render len) (State.init rate) =
      .next { State.init rate with out := List.replicate len.toNat 0, cursor := len.toNat % (rate / 5) }

/-! ## Setters -/

/-- R200: SETFREQ's encoding, its effect (a negative operand is clamped to 0) and that nothing else changes. -/
def Obligations.SetfreqSetsTheFrequency : Prop :=
  (∀ (ch : Sel) (hz : Arg), encode (.setfreq ch hz) = 0x10#8 ++ ch ++ hz) ∧
  encode (.setfreq 2#8 0x01B80000#32) = 0x100201B80000#48 ∧
  (∀ (ch : Sel) (hz : Arg) (s : State) (h : ch.toNat < 5),
    exec (.setfreq ch hz) s =
      .next { s with
        channels := s.channels.set ch.toNat
          { s.channels[ch.toNat] with freq := if hz.toInt < 0 then 0 else (hz.toInt : Val) / 65536 } h })

/-- R201: SETEN's encoding, its effect and that nothing else changes. -/
def Obligations.SetenSetsTheEnableBit : Prop :=
  (∀ (ch : Sel) (en : Bool), encode (.seten ch en) = 0x11#8 ++ ch ++ (if en then 1#32 else 0#32)) ∧
  encode (.seten 1#8 false) = 0x110100000000#48 ∧ encode (.seten 0#8 true) = 0x110000000001#48 ∧
  decode 0x110000000002#48 = .error (.reservedArgBits 2#32) ∧
  (∀ (ch : Sel) (en : Bool) (s : State) (h : ch.toNat < 5),
    exec (.seten ch en) s =
      .next { s with channels := s.channels.set ch.toNat { s.channels[ch.toNat] with en := en } h })

/-- R202: SETCH0 writes frequency and disable in one command, and nothing else. -/
def Obligations.Setch0SetsFrequencyAndDisables : Prop :=
  (∀ (ch : Sel) (hz : Arg), encode (.setch0 ch hz) = 0x12#8 ++ ch ++ hz) ∧
  encode (.setch0 3#8 0#32) = 0x120300000000#48 ∧
  (∀ (ch : Sel) (hz : Arg) (s : State) (h : ch.toNat < 5),
    exec (.setch0 ch hz) s =
      .next { s with
        channels := s.channels.set ch.toNat
          { s.channels[ch.toNat] with freq := if hz.toInt < 0 then 0 else (hz.toInt : Val) / 65536, en := false } h })

/-- R203: SETCH1 writes frequency and enable in one command, and nothing else. -/
def Obligations.Setch1SetsFrequencyAndEnables : Prop :=
  (∀ (ch : Sel) (hz : Arg), encode (.setch1 ch hz) = 0x13#8 ++ ch ++ hz) ∧
  encode (.setch1 0#8 0x50000#32) = 0x130000050000#48 ∧ encode (.setch1 1#8 0xA0000#32) = 0x1301000A0000#48 ∧
  (∀ (ch : Sel) (hz : Arg) (s : State) (h : ch.toNat < 5),
    exec (.setch1 ch hz) s =
      .next { s with
        channels := s.channels.set ch.toNat
          { s.channels[ch.toNat] with freq := if hz.toInt < 0 then 0 else (hz.toInt : Val) / 65536, en := true } h })

/-- The forms the four statements above leave out: a channel index of 5 or more names no channel, so no word carries such a
command (R112), and as a command of its own it changes nothing. -/
def Obligations.NoSuchChannelChangesNothing : Prop :=
  ∀ (ch : Sel) (hz : Arg) (en : Bool) (s : State), 5 ≤ ch.toNat →
    (∀ w : Word48, decode w ≠ .ok (.setfreq ch hz) ∧ decode w ≠ .ok (.seten ch en) ∧
      decode w ≠ .ok (.setch0 ch hz) ∧ decode w ≠ .ok (.setch1 ch hz)) ∧
    exec (.setfreq ch hz) s = .next s ∧ exec (.seten ch en) s = .next s ∧
    exec (.setch0 ch hz) s = .next s ∧ exec (.setch1 ch hz) s = .next s

/-- R204: SETMASK's encoding and effect; every mask is legal; bit 0 is the sine, 1 the square, 2 the sawtooth, 3 the
triangle. -/
def Obligations.SetmaskSetsTheMask : Prop :=
  (∀ mask : BitVec 4, encode (.setmask mask) = 0x20#8 ++ 0#8 ++ (0#28 ++ mask)) ∧
  encode (.setmask 1#4) = 0x200000000001#48 ∧ encode (.setmask 15#4) = 0x20000000000F#48 ∧
  decode 0x200000000010#48 = .error (.reservedArgBits 16#32) ∧
  (∀ mask : BitVec 4, decode (encode (.setmask mask)) = .ok (.setmask mask)) ∧
  (∀ (mask : BitVec 4) (s : State), exec (.setmask mask) s = .next { s with wmask := mask }) ∧
  (∀ (mask : BitVec 4) (t duty : Val), wave t mask duty =
    (if mask.getLsbD 0 then genSine t else 0) + (if mask.getLsbD 1 then 1 / 4 * genSquare t duty else 0)
      + (if mask.getLsbD 2 then 3 / 10 * genSaw t else 0) + (if mask.getLsbD 3 then 3 / 5 * genTri t else 0))

/-- R205: SETHCNT's encoding and effect, clamped to [1, 8] in the one write. -/
def Obligations.SethcntClampsTheCount : Prop :=
  (∀ n : Arg, encode (.sethcnt n) = 0x21#8 ++ 0#8 ++ n) ∧
  encode (.sethcnt 5#32) = 0x210000000005#48 ∧
  (∀ (n : Arg) (s : State),
    exec (.sethcnt n) s =
      .next { s with hcount := if n.toInt < 1 then 1 else if 8 < n.toInt then 8 else n.toInt.toNat })

/-- R206, R208, R209, R210: the four setters of a register without a domain store the operand as it is, of any sign, and
change nothing else; `FSHIFT` follows a new depth at the next TICK. -/
def Obligations.UnclampedSettersStoreTheOperand : Prop :=
  (∀ v : Arg, encode (.sethvel v) = 0x22#8 ++ 0#8 ++ v ∧ encode (.setdrate v) = 0x24#8 ++ 0#8 ++ v ∧
    encode (.setvdep v) = 0x25#8 ++ 0#8 ++ v ∧ encode (.setvrate v) = 0x26#8 ++ 0#8 ++ v) ∧
  encode (.sethvel 0x2000#32) = 0x220000002000#48 ∧ encode (.setdrate 0x8000#32) = 0x240000008000#48 ∧
  encode (.setdrate 0#32) = 0x240000000000#48 ∧ encode (.setvdep 0x30000#32) = 0x250000030000#48 ∧
  encode (.setvdep 0xFFFB0000#32) = 0x2500FFFB0000#48 ∧ encode (.setvrate 0x20000#32) = 0x260000020000#48 ∧
  (∀ (v : Arg) (s : State),
    exec (.sethvel v) s = .next { s with hvel := (v.toInt : Val) / 65536 } ∧
    exec (.setdrate v) s = .next { s with drate := (v.toInt : Val) / 65536 } ∧
    exec (.setvdep v) s = .next { s with vdepth := (v.toInt : Val) / 65536 } ∧
    exec (.setvrate v) s = .next { s with vrate := (v.toInt : Val) / 65536 }) ∧
  (∀ (v now : Arg) (s : State), ∃ t u, exec (.setvdep v) s = .next t ∧ exec (.tick now) t = .next u ∧
    t.fshift = s.fshift ∧ u.fshift = (v.toInt : Val) / 65536 * sinT (s.vrate * s.elapsed now))

/-- R207: SETDOFF's encoding and effect, clamped to [0, 1]; `DUTY` and every other register keep their values,
and `DUTY` takes the new offset at the next TICK with modulation off. -/
def Obligations.SetdoffClampsTheDutyOffset : Prop :=
  (∀ w : Arg, encode (.setdoff w) = 0x23#8 ++ 0#8 ++ w) ∧
  encode (.setdoff 0x4000#32) = 0x230000004000#48 ∧ encode (.setdoff 0x8000#32) = 0x230000008000#48 ∧
  (∀ (w : Arg) (s : State),
    exec (.setdoff w) s =
      .next { s with doff := if w.toInt < 0 then 0 else if 65536 < w.toInt then 1 else (w.toInt : Val) / 65536 }) ∧
  (∀ (w now : Arg) (s : State), s.drate = 0 → ∃ t u, exec (.setdoff w) s = .next t ∧ exec (.tick now) t = .next u ∧
    t.duty = s.duty ∧ u.duty = t.doff)

/-- R211, R212: SETATK and SETREL, a negative duration clamped to 0; nothing else changes. -/
def Obligations.DurationSettersClampAtZero : Prop :=
  (∀ v : Arg, encode (.setatk v) = 0x27#8 ++ 0#8 ++ v ∧ encode (.setrel v) = 0x28#8 ++ 0#8 ++ v) ∧
  encode (.setatk 0x8000#32) = 0x270000008000#48 ∧ encode (.setatk 0#32) = 0x270000000000#48 ∧
  encode (.setrel 0x20000#32) = 0x280000020000#48 ∧ encode (.setrel 0x40000000#32) = 0x280040000000#48 ∧
  (∀ (v : Arg) (s : State),
    exec (.setatk v) s = .next { s with attack := if v.toInt < 0 then 0 else (v.toInt : Val) / 65536 } ∧
    exec (.setrel v) s = .next { s with release := if v.toInt < 0 then 0 else (v.toInt : Val) / 65536 })

/-- R190: NOTEON records the stamp and changes nothing else. -/
def Obligations.NoteonRecordsTheEnvelopeStart : Prop :=
  (∀ now : Arg, encode (.noteon now) = 0x03#8 ++ 0#8 ++ now) ∧
  encode (.noteon 0x00100000#32) = 0x030000100000#48 ∧
  (∀ (now : Arg) (s : State), exec (.noteon now) s = .next { s with envStart := now })

/-- 43_setters.md ("it is idempotent") and R191: every setter and NOTEON, executed twice, leaves the state of once. -/
def Obligations.SettersAreIdempotent : Prop :=
  ∀ (i : Instr) (s t : State), (∀ len, i ≠ .render len) → (∀ now, i ≠ .tick now) →
    exec i s = .next t → exec i t = .next t

/-- R213: `VOLUME`, `FSHIFT`, `DUTY` and `HOFFSET` are written by TICK only; `PP`, `CURSOR`, `RB` and the sample port by
RENDER only; `ENV_START` by NOTEON only; `SR` by no command. -/
def Obligations.RegistersWithoutASetterHaveOneWriter : Prop :=
  ∀ (i : Instr) (s t : State), exec i s = .next t →
    ((∀ now, i ≠ .tick now) →
      t.volume = s.volume ∧ t.fshift = s.fshift ∧ t.duty = s.duty ∧ t.hoffset = s.hoffset) ∧
    ((∀ len, i ≠ .render len) →
      (∀ c : Fin 5, t.channels[c].pp = s.channels[c].pp) ∧ t.cursor = s.cursor ∧ t.rb = s.rb ∧ t.out = s.out) ∧
    ((∀ now, i ≠ .noteon now) → t.envStart = s.envStart) ∧
    t.sr = s.sr

/-- The commands whose effect waits for the next TICK (R271). -/
def Sys2Proof.actsAtTick : Instr → Bool
  | .sethvel _ => true
  | .setdoff _ => true
  | .setdrate _ => true
  | .setvdep _ => true
  | .setvrate _ => true
  | .setatk _ => true
  | .setrel _ => true
  | .noteon _ => true
  | .render _ => false
  | .tick _ => false
  | .setfreq _ _ => false
  | .seten _ _ => false
  | .setch0 _ _ => false
  | .setch1 _ _ => false
  | .setmask _ => false
  | .sethcnt _ => false

/-- R271: `ATTACK`, `RELEASE`, `VDEPTH`, `VRATE`, `DOFF`, `DRATE`, `HVEL` and NOTEON act through the next TICK only: a RENDER
right after such a command emits the same samples and leaves the same phases, buffer and cursor as without it. -/
def Obligations.ControlSettersWaitForTheNextTick : Prop :=
  ∀ (i : Instr) (len : Arg) (s t u : State), actsAtTick i = true → exec i s = .next t →
    exec (.render len) s = .next u →
    ∃ v, exec (.render len) t = .next v ∧ v.out = u.out ∧ v.channels = u.channels ∧ v.rb = u.rb ∧ v.cursor = u.cursor ∧
      v.volume = u.volume ∧ v.fshift = u.fshift ∧ v.duty = u.duty ∧ v.hoffset = u.hoffset

/-! ## TICK -/

/-- R180, R184: TICK's encoding, and that it always completes, writes the four controllers' registers from one elapsed time,
adds `HVEL` to `HOFFSET` once per command whatever the stamp, and changes nothing else. -/
def Obligations.TickRunsTheFourControllers : Prop :=
  (∀ now : Arg, encode (.tick now) = 0x02#8 ++ 0#8 ++ now) ∧
  encode (.tick 0x00104000#32) = 0x020000104000#48 ∧
  (∀ (now : Arg) (s : State),
    exec (.tick now) s =
      .next { s with
        volume := envelopeAt s.attack s.release (s.elapsed now)
        fshift := s.vdepth * sinT (s.vrate * s.elapsed now)
        hoffset := s.hoffset + s.hvel
        duty := if s.drate = 0 then s.doff else 1 / 2 + 2 / 5 * sinT (s.drate * s.elapsed now) }) ∧
  (∀ (now now' : Arg) (s t u : State), exec (.tick now) s = .next t → exec (.tick now') t = .next u →
    u.hoffset = s.hoffset + 2 * s.hvel)

/-- R181: the elapsed time is the stamps' difference modulo 2^32 in units of 2^-16 second, so a multiple of 2^-16 in
[0, 65536 - 2^-16]; all four controllers of one TICK use this one value. -/
def Obligations.ElapsedTimeIsTheStampDifference : Prop :=
  ∀ (now : Arg) (s : State),
    s.elapsed now = (((now.toNat : Int) - (s.envStart.toNat : Int)) % 4294967296 : Int) / 65536 ∧
    0 ≤ s.elapsed now ∧ s.elapsed now ≤ 65536 - 1 / 65536 ∧ OnGrid (s.elapsed now) ∧
    exec (.tick now) s = .next ((((s.envelope (s.elapsed now)).vibrato (s.elapsed now)).drift).dutyUpdate (s.elapsed now))

/-- R182: the three branches of the envelope, each with the range the rule gives it. -/
def Obligations.EnvelopeHasThreeBranches : Prop :=
  ∀ (now : Arg) (s : State), ∃ t, exec (.tick now) s = .next t ∧
    (s.elapsed now < s.attack → t.volume = s.elapsed now / s.attack ∧ 0 ≤ t.volume ∧ t.volume < 1) ∧
    (s.attack ≤ s.elapsed now → s.release = 0 → t.volume = 0) ∧
    (s.attack ≤ s.elapsed now → 0 < s.release → s.elapsed now < s.attack + s.release →
      t.volume = 1 - (s.elapsed now - s.attack) / s.release ∧ 0 < t.volume ∧ t.volume ≤ 1) ∧
    (s.attack + s.release ≤ s.elapsed now → 0 < s.release → t.volume = 0)

/-- R183, R186: vibrato by the table's sine, its corner cases and its bound. -/
def Obligations.VibratoFollowsTheTableSine : Prop :=
  ∀ (now : Arg) (s : State), ∃ t, exec (.tick now) s = .next t ∧
    t.fshift = s.vdepth * sinT (s.vrate * s.elapsed now) ∧
    (s.vdepth = 0 ∨ s.vrate = 0 → t.fshift = 0) ∧
    |t.fshift| ≤ |s.vdepth|

/-- R185: the duty width is the fixed offset when modulation is off and oscillates in [1/10, 9/10] when it is on, so it
stays in [0, 1]. -/
def Obligations.DutyWidthIsFixedOrOscillates : Prop :=
  ∀ (now : Arg) (s : State), ∃ t, exec (.tick now) s = .next t ∧
    (s.drate = 0 → t.duty = s.doff) ∧
    (s.drate ≠ 0 →
      t.duty = 1 / 2 + 2 / 5 * sinT (s.drate * s.elapsed now) ∧ 1 / 10 ≤ t.duty ∧ t.duty ≤ 9 / 10) ∧
    (InUnit s.doff → InUnit t.duty)

/-- R188: over TICKs with non-decreasing elapsed time the volume does not fall during the attack, does not rise after it, and
stays in [0, 1]; no other command changes it. -/
def Obligations.EnvelopeRisesThenFalls : Prop :=
  (∀ (now now' : Arg) (s t t' : State), 0 ≤ s.attack → 0 ≤ s.release →
    exec (.tick now) s = .next t → exec (.tick now') s = .next t' → s.elapsed now ≤ s.elapsed now' →
    (s.elapsed now' < s.attack → t.volume ≤ t'.volume) ∧
    (s.attack ≤ s.elapsed now → t'.volume ≤ t.volume) ∧
    InUnit t.volume) ∧
  (∀ (i : Instr) (s t : State), (∀ now, i ≠ .tick now) → exec i s = .next t → t.volume = s.volume)

/-- R187: the order in which the four controllers run inside a TICK cannot be observed. -/
def Obligations.ControllerOrderIsUnobservable : Prop :=
  ∀ (e : Val) (s : State) (fs : List (State → State)),
    fs.Perm [State.envelope e, State.vibrato e, State.drift, State.dutyUpdate e] →
    fs.foldl (fun s f => f s) s = s.tick e

/-- R117, R187: FORCEVOL1, with `RELEASE` above 0, makes the volume exactly 1; and `SETCH i, b, hz` is the joint command of
its bit. -/
def Obligations.PseudoCommandsDoWhatTheyName : Prop :=
  (∀ (now : Arg) (s : State), 0 < s.release →
    ∃ t, execAll (Pseudo.forcevol1 now).expand s = .next t ∧ t.volume = 1 ∧ t.attack = 0 ∧ t.envStart = now) ∧
  (∀ (ch : Sel) (en : Bool) (hz : Arg) (s : State) (h : ch.toNat < 5),
    execAll (Pseudo.setch ch en hz).expand s =
      .next { s with
        channels := s.channels.set ch.toNat
          { s.channels[ch.toNat] with freq := if hz.toInt < 0 then 0 else (hz.toInt : Val) / 65536, en := en } h })

/-! ## The datapath -/

/-- R91 (check sums), R92, R93 (images) and R94 (what every admissible image has): the transcribed ROMs. -/
def Obligations.RomImagesAreAdmissible : Prop :=
  quad.length = 257 ∧ quad.sum = 10713444 ∧ (quad.map fun n => n * n).sum = 551903457638 ∧
  (∀ i, i ≤ 256 → sinRom i = (quad.getD i 0 : Nat) / 65536) ∧
  (∀ i, 257 ≤ i → i ≤ 512 → sinRom i = (quad.getD (512 - i) 0 : Nat) / 65536) ∧
  (∀ i, 513 ≤ i → i ≤ 1023 → sinRom i = -sinRom (i - 512)) ∧
  (∀ j, j < 256 → cosRom j = sinRom ((4 * j + 256) % 1024)) ∧
  (∀ i, i < 1024 → -1 ≤ sinRom i ∧ sinRom i ≤ 1) ∧
  sinRom 0 = 0 ∧ sinRom 256 = 1 ∧ sinRom 512 = 0 ∧ sinRom 768 = -1 ∧ cosRom 0 = 1 ∧
  (∀ i, i < 512 → sinRom (i + 512) = -sinRom i)

/-- R132, R135 (period one turn), R134 (the cosine's period is `1 / INV_TWO_PI`) and R163's derived sentence: a phase kept
reduced by `frac` cannot be told from an unreduced one. -/
def Obligations.LookupsAndGeneratorsArePeriodic : Prop :=
  ∀ (t duty : Val) (k : Int) (mask : BitVec 4) (hcount : Nat) (hamp : List Val),
    sinT (t + k) = sinT t ∧ genSine (t + k) = genSine t ∧ genSquare (t + k) duty = genSquare t duty ∧
    genSaw (t + k) = genSaw t ∧ genTri (t + k) = genTri t ∧ wave (t + k) mask duty = wave t mask duty ∧
    waveHarmonics (t + k) mask duty hcount hamp = waveHarmonics t mask duty hcount hamp ∧
    waveHarmonics (frac t) mask duty hcount hamp = waveHarmonics t mask duty hcount hamp ∧
    cosR (t + k * (1073741824 / 170891319)) = cosR t

/-- R136 to R139: the generators' formulas, ranges and corner cases. -/
def Obligations.GeneratorsStayInTheirRanges : Prop :=
  ∀ t duty : Val,
    (genSine t = sinT t ∧ -1 ≤ genSine t ∧ genSine t ≤ 1) ∧
    ((frac t < duty → genSquare t duty = 1) ∧ (duty ≤ frac t → genSquare t duty = -1) ∧
      genSquare t 0 = -1 ∧ genSquare t 1 = 1) ∧
    (genSaw t = 2 * frac t - 1 ∧ -1 ≤ genSaw t ∧ genSaw t < 1) ∧
    ((frac t < 1 / 2 → genTri t = 4 * frac t - 1) ∧ (1 / 2 ≤ frac t → genTri t = -4 * frac t + 3) ∧
      -1 ≤ genTri t ∧ genTri t ≤ 1 ∧ (genTri t = -1 ↔ frac t = 0) ∧ (genTri t = 1 ↔ frac t = 1 / 2) ∧
      (genTri t = 0 ↔ frac t = 1 / 4 ∨ frac t = 3 / 4))

/-- R142: eight amplitudes, each in [-1, 1], the fundamental's always 1. -/
def Obligations.FundamentalAmplitudeIsOne : Prop :=
  ∀ h : Val, (hampOf h).length = 8 ∧ (hampOf h).getD 0 0 = 1 ∧
    ∀ k : Nat, k < 8 → (hampOf h).getD k 0 = cosR (k * h + k) ∧ -1 ≤ (hampOf h).getD k 0 ∧ (hampOf h).getD k 0 ≤ 1

/-- R144, with R140's bound: |wave| ≤ 43/20, |waveHarmonics| ≤ (43/20) Σ (3/4)^k < 43/5, and the mix of the channels is below
43 in magnitude. -/
def Obligations.MixIsBelowFortyThree : Prop :=
  (∀ (t duty : Val) (mask : BitVec 4), |wave t mask duty| ≤ 43 / 20) ∧
  (∀ (t duty : Val) (mask : BitVec 4) (hcount : Nat) (h : Val),
    |waveHarmonics t mask duty hcount (hampOf h)| ≤ 43 / 20 * ∑ k ∈ Finset.range hcount, (3 / 4 : Val) ^ k ∧
    43 / 20 * ∑ k ∈ Finset.range hcount, (3 / 4 : Val) ^ k < 43 / 5) ∧
  (∀ (s : State) (i : Nat), |s.mix i| < 43)

/-! ## RENDER -/

/-- The dry mix of sample `i` written out from R161 to R164, R142 and R143. -/
def Sys2Proof.mixOfTheRules (s : State) (i : Nat) : Val :=
  ∑ c : Fin 5,
    if s.channels[c].en then
      ∑ k ∈ Finset.range s.hcount,
        wave ((k + 1) * (s.channels[c].pp + i * ((s.channels[c].freq + s.fshift) / s.sr))) s.wmask s.duty
          * cosR (k * s.hoffset + k) * (3 / 4 : Val) ^ k
    else 0

/-- R161 to R164: the dry mix is the sum over the enabled channels of the weighted harmonics at phase `PP + i * delta`; a
disabled channel adds nothing. -/
def Obligations.DryMixIsTheSumOverEnabledChannels : Prop :=
  ∀ (s : State) (i : Nat), s.hcount ≤ 8 → s.mix i = mixOfTheRules s i

/-- R165, R173: RENDER completes and emits, in order, `mix(i) * VOLUME` plus half the dry mix of the sample `RLEN` earlier,
taken from the buffer for the first `RLEN` samples and from the command's own mixes after them. -/
def Obligations.RenderEmitsMixPlusHalfTheEcho : Prop :=
  ∀ (len : Arg) (s : State), s.cursor < s.rlen → s.hcount ≤ 8 → Memory.wf s.rb →
    ∃ t, exec (.render len) s = .next t ∧
      t.out = s.out ++ (List.range len.toNat).map fun i =>
        s.mix i * s.volume +
          1 / 2 * (if i < s.rlen then Memory.read ((s.cursor + i) % s.rlen) s.rb else s.mix (i - s.rlen))

/-- R166, R167 and RENDER's frame (R160): the cursor advances by the length modulo `RLEN`; each slot holds the last dry mix
stored in it, the slots not reached and every index outside `RB` hold what they held; each enabled channel's phase is
the one past the last sample, a disabled channel's is kept; nothing else changes. -/
def Obligations.RenderLeavesPhasesBufferAndCursor : Prop :=
  ∀ (len : Arg) (s : State), s.cursor < s.rlen → s.hcount ≤ 8 → Memory.wf s.rb →
    ∃ t, exec (.render len) s = .next t ∧
      t = { s with out := t.out, rb := t.rb, channels := t.channels, cursor := (s.cursor + len.toNat) % s.rlen } ∧
      (∀ c : Fin 5, t.channels[c] =
        if s.channels[c].en then
          { s.channels[c] with
            pp := frac (s.channels[c].pp + len.toNat * ((s.channels[c].freq + s.fshift) / s.sr)) }
        else s.channels[c]) ∧
      (∀ j : Nat, Memory.read j t.rb =
        if s.rlen ≤ j then Memory.read j s.rb
        else if (j + s.rlen - s.cursor) % s.rlen < len.toNat then
          s.mix ((j + s.rlen - s.cursor) % s.rlen +
            s.rlen * ((len.toNat - 1 - (j + s.rlen - s.cursor) % s.rlen) / s.rlen))
        else Memory.read j s.rb)

/-- R169: RENDER `a` followed directly by RENDER `b` is RENDER `a + b`, samples and state, exactly. -/
def Obligations.TwoRendersAreOneLongRender : Prop :=
  ∀ (a b : Arg) (s t : State), a.toNat + b.toNat < 4294967296 →
    exec (.render a) s = .next t → exec (.render b) t = exec (.render (a + b)) s

/-- R172: RENDER 0 emits nothing and changes nothing. -/
def Obligations.RenderOfLengthZeroChangesNothing : Prop :=
  ∀ s : State, Inv s → exec (.render 0#32) s = .next s

/-- R170: disabling a channel, rendering and enabling it again leaves its phase where it was; and a RENDER does not read the
phase of a disabled channel. -/
def Obligations.DisabledChannelKeepsItsPhase : Prop :=
  (∀ (ch : Sel) (len : Arg) (s : State) (_ : ch.toNat < 5), s.cursor < s.rlen → s.hcount ≤ 8 →
    ∃ t, execAll [.seten ch false, .render len, .seten ch true] s = .next t ∧
      t.channels[ch.toNat].pp = s.channels[ch.toNat].pp ∧ t.channels[ch.toNat].en = true) ∧
  (∀ (s : State) (hamp : List Val) (i : Nat) (c : Channel), c.en = false → s.voice hamp i c = 0)

/-- R171: at effective frequency zero an enabled channel sees its stored phase at every sample, so it contributes the constant
`waveHarmonics(PP[c], ...)`: that is its own term of the mix and what the mix has more than with the channel disabled; a
disabled one contributes nothing; the phase stays. With phase 0, mask 0b1100 and one harmonic the channel contributes -9/10
at every sample. A negative effective frequency lets the phase run backwards. At any effective frequency an enabled
channel's phase is left in [0, 1). -/
def Obligations.ZeroFrequencyIsAConstant : Prop :=
  (∀ (len : Arg) (s : State) (c : Fin 5), s.cursor < s.rlen → s.hcount ≤ 8 →
    ∃ t, exec (.render len) s = .next t ∧
      (s.channels[c].freq + s.fshift = 0 →
        (∀ i, s.phi s.channels[c] i = s.channels[c].pp) ∧
        (s.channels[c].en = true → ∀ i,
          s.voice (hampOf s.hoffset) i s.channels[c] =
            waveHarmonics s.channels[c].pp s.wmask s.duty s.hcount (hampOf s.hoffset) ∧
          s.mix i =
            State.mix { s with channels := s.channels.set c { s.channels[c] with en := false } } i +
              waveHarmonics s.channels[c].pp s.wmask s.duty s.hcount (hampOf s.hoffset)) ∧
        (s.channels[c].en = false → ∀ i, s.voice (hampOf s.hoffset) i s.channels[c] = 0) ∧
        (0 ≤ s.channels[c].pp → s.channels[c].pp < 1 → t.channels[c] = s.channels[c])) ∧
      (s.channels[c].freq + s.fshift < 0 → ∀ i, s.phi s.channels[c] (i + 1) < s.phi s.channels[c] i) ∧
      (s.channels[c].en = true → 0 ≤ t.channels[c].pp ∧ t.channels[c].pp < 1)) ∧
  (∀ (s : State) (c : Fin 5), s.channels[c].en = true → s.channels[c].freq + s.fshift = 0 → s.channels[c].pp = 0 →
    s.wmask = 0b1100#4 → s.hcount = 1 → ∀ i, s.voice (hampOf s.hoffset) i s.channels[c] = -9 / 10) ∧
  (∀ duty h : Val, waveHarmonics 0 0b1100#4 duty 1 (hampOf h) = -9 / 10)

/-- Where the model's RENDER stops (log 6): with samples to produce and an index outside `RB` or `hamp`, which R45 and R66
exclude. -/
def Obligations.RenderStopsOutsideItsMemories : Prop :=
  ∀ (len : Arg) (s : State), len ≠ 0#32 →
    (s.rlen ≤ s.cursor → exec (.render len) s = .fault .reverbIndex) ∧
    (s.cursor < s.rlen → 8 < s.hcount → exec (.render len) s = .fault .harmonicIndex)

/-! ## Invariants -/

/-- The invariant and the value sets hold at reset, at any legal sample rate (R45, R46). -/
def Obligations.InvariantHoldsAtReset : Prop :=
  Inv State.reset ∧ ValueSets State.reset ∧ ∀ rate, 5 ≤ rate → Inv (State.init rate) ∧ ValueSets (State.init rate)

/-- R45: every step keeps the invariant, with the canonical form and the range of `RB`. -/
def Obligations.EveryStepKeepsTheInvariant : Prop :=
  ∀ s t : State, Inv s → step s = .next t → Inv t

/-- R21, R29, R30, R32 to R38: every step keeps the registers in the value sets the operand format gives them. -/
def Obligations.EveryStepKeepsTheValueSets : Prop :=
  ∀ s t : State, ValueSets s → step s = .next t → ValueSets t

/-- R230: no command raises an exception or faults: from a state that meets the invariant every one of the 2^48 words has an
effect and no step faults. -/
def Obligations.EveryWordHasAnEffect : Prop :=
  ∀ s : State, Inv s →
    (∀ i : Instr, ∃ t, exec i s = .next t) ∧ (∀ w : Word48, ∃ t, acceptWord w s = .next t) ∧ Safe s
end

