-- ==== Sys2Proof/Laws/Datapath.lean ====
section
/-! SUPPORT. What the datapath functions and the operand forms can answer: `frac` as the library's fractional part, indexes
in range (R66, R131), entries and lookups in [-1, 1] (R94, R132), clamps in their interval (R232). -/

namespace Sys2Proof.Machine

/-! ### Phase reduction -/

theorem frac_eq_fract (v : Val) : frac v = Int.fract v := rfl

theorem frac_nonneg (v : Val) : 0 ≤ frac v := by
  rw [frac_eq_fract]
  exact Int.fract_nonneg v

theorem frac_lt_one (v : Val) : frac v < 1 := by
  rw [frac_eq_fract]
  exact Int.fract_lt_one v

theorem frac_add_int (v : Val) (k : Int) : frac (v + (k : Val)) = frac v := by
  simp only [frac_eq_fract, Int.fract_add_intCast]

/-- A value in [0, 1) is its own fractional part. -/
theorem frac_of_unit {v : Val} (h0 : 0 ≤ v) (h1 : v < 1) : frac v = v := by
  rw [frac_eq_fract]
  exact Int.fract_eq_self.2 ⟨h0, h1⟩

/-- A value and its fractional part differ by an integer. -/
theorem exists_frac_eq_sub (v : Val) : ∃ k : Int, frac v = v - (k : Val) := ⟨Rat.floor v, rfl⟩

/-! ### Table indexes -/

theorem index_eq_floor (t : Val) (size : Nat) : index t size = ⌊frac t * (size : Val)⌋.toNat := rfl

/-- A table index is in range, so no lookup leaves its table (R66, R131). -/
theorem index_lt (t : Val) {size : Nat} (h : 0 < size) : index t size < size := by
  have hs : (0 : Val) < (size : Val) := by exact_mod_cast h
  have hlt : ⌊frac t * (size : Val)⌋ < (size : Int) := by
    rw [Int.floor_lt]
    push_cast
    nlinarith [frac_lt_one t]
  rw [index_eq_floor]
  omega

/-! ### ROM entries and lookups -/

theorem quad_le (j : Nat) : quad.getD j 0 ≤ 65536 := by
  have h : ∀ x ∈ quad, x ≤ 65536 := by decide +kernel
  rw [List.getD_eq_getElem?_getD]
  cases hj : quad[j]? with
  | none => simp
  | some x => exact h x (List.mem_of_getElem? hj)

theorem sinHalf_mem (i : Nat) : 0 ≤ sinHalf i ∧ sinHalf i ≤ 1 := by
  have h : ((quad.getD (if i ≤ 256 then i else 512 - i) 0 : Nat) : Val) ≤ 65536 := by exact_mod_cast quad_le _
  have h0 : (0 : Val) ≤ ((quad.getD (if i ≤ 256 then i else 512 - i) 0 : Nat) : Val) := by positivity
  unfold sinHalf
  constructor
  · positivity
  · rw [div_le_one (by norm_num)]
    exact h

/-- Every entry of the sine image is in [-1, 1] (R94). -/
theorem sinRom_mem (i : Nat) : -1 ≤ sinRom i ∧ sinRom i ≤ 1 := by
  unfold sinRom
  split
  · have := sinHalf_mem i
    exact ⟨by linarith, this.2⟩
  · have := sinHalf_mem (i - 512)
    constructor <;> linarith

theorem sinT_mem (t : Val) : -1 ≤ sinT t ∧ sinT t ≤ 1 := sinRom_mem _

theorem cosR_mem (x : Val) : -1 ≤ cosR x ∧ cosR x ≤ 1 := sinRom_mem _

/-! ### Powers and the amplitude array -/

theorem decayPow_eq_pow (k : Nat) : decayPow k = (3 / 4 : Val) ^ k := by
  induction k with
  | zero => simp [decayPow]
  | succ k ih => rw [decayPow, ih, pow_succ, decay]

@[simp] theorem hampOf_length (h : Val) : (hampOf h).length = 8 := by simp [hampOf]

theorem hampOf_getD (h : Val) {k : Nat} (hk : k < 8) : (hampOf h).getD k 0 = cosR ((k : Val) * h + (k : Val)) := by
  simp [hampOf, List.getD_eq_getElem?_getD, List.getElem?_range hk]

/-! ### Operands -/

theorem formQ_neg_iff (arg : Arg) : formQ arg < 0 ↔ arg.toInt < 0 := by
  unfold formQ
  rw [div_neg_iff]
  constructor
  · rintro (⟨-, h⟩ | ⟨h, -⟩)
    · norm_num at h
    · exact_mod_cast h
  · intro h
    exact .inr ⟨by exact_mod_cast h, by norm_num⟩

theorem clamp_mem {lo hi : Val} (h : lo ≤ hi) (v : Val) : lo ≤ clamp v lo hi ∧ clamp v lo hi ≤ hi := by
  unfold clamp
  split
  · exact ⟨le_refl _, h⟩
  · next hv =>
    split
    · exact ⟨h, le_refl _⟩
    · next hv' => exact ⟨not_lt.1 hv, not_lt.1 hv'⟩

theorem clampNonneg_nonneg (v : Val) : 0 ≤ clampNonneg v := by
  unfold clampNonneg
  split
  · exact le_refl _
  · next h => exact not_lt.1 h

theorem clampCount_mem (n : Int) : 1 ≤ clampCount n ∧ clampCount n ≤ 8 := by
  unfold clampCount
  split
  · omega
  · split <;> omega

end Sys2Proof.Machine
end

