-- ==== Sys2Proof/Laws/Decode.lean ====
section
/-! SUPPORT. The fields of an assembled word, and the bytes of a word put together again. -/

namespace Sys2Proof

@[simp] theorem opField_assemble (op : Byte) (sel : Sel) (arg : Arg) : opField (assemble op sel arg) = op := by
  ext i hi
  simp [opField, assemble]
  grind

@[simp] theorem selField_assemble (op : Byte) (sel : Sel) (arg : Arg) : selField (assemble op sel arg) = sel := by
  ext i hi
  simp [selField, assemble]
  grind

@[simp] theorem argField_assemble (op : Byte) (sel : Sel) (arg : Arg) : argField (assemble op sel arg) = arg := by
  ext i hi
  simp [argField, assemble]
  grind

/-- A word is its three fields (R101). -/
theorem assemble_fields (w : Word48) : assemble (opField w) (selField w) (argField w) = w := by
  ext i hi
  simp [opField, selField, argField, assemble]
  grind

end Sys2Proof
end

