-- ==== Sys2Proof/Laws/Memory.lean ====
section
/-! SUPPORT. The reverb buffer's laws: a read after a write, the canonical form kept by every write, and that equal
contents are equal data. -/

namespace Sys2Proof.Machine

theorem Memory.wf_nil : Memory.wf [] := ⟨List.Pairwise.nil, by simp⟩

theorem Memory.wf_cons {k : Nat} {x : Val} {m : Memory} :
    Memory.wf ((k, x) :: m) ↔ (∀ c ∈ m, k < c.1) ∧ x ≠ Memory.unlisted ∧ Memory.wf m := by
  simp only [Memory.wf, List.pairwise_cons, List.forall_mem_cons]
  tauto

@[simp] theorem Memory.read_nil (j : Nat) : Memory.read j [] = Memory.unlisted := rfl

theorem Memory.read_cons (j k : Nat) (x : Val) (m : Memory) :
    Memory.read j ((k, x) :: m) = if k = j then x else Memory.read j m := rfl

/-- An element below every listed one is unlisted. -/
theorem Memory.read_below {j : Nat} {m : Memory} (h : ∀ c ∈ m, j < c.1) : Memory.read j m = Memory.unlisted := by
  induction m with
  | nil => rfl
  | cons c m ih =>
    have hc := h c (by simp)
    rw [Memory.read_cons, if_neg (by omega)]
    exact ih fun d hd => h d (by simp [hd])

theorem Memory.read_consCell {j k : Nat} {v : Val} {m : Memory} (h : ∀ c ∈ m, j < c.1) :
    Memory.read k (Memory.consCell j v m) = if k = j then v else Memory.read k m := by
  unfold Memory.consCell
  split
  · next hv =>
    split
    · next hk => rw [hk, Memory.read_below h, hv]
    · rfl
  · rw [Memory.read_cons]
    by_cases hk : j = k
    · simp [hk]
    · simp [hk, Ne.symm hk]

/-- A read after a write gives the value written at its index and what was there before elsewhere (R60, R61). -/
theorem Memory.read_write {m : Memory} (hm : Memory.wf m) (j k : Nat) (v : Val) :
    Memory.read k (Memory.write j v m) = if k = j then v else Memory.read k m := by
  induction m with
  | nil => exact Memory.read_consCell (by simp)
  | cons c m ih =>
    obtain ⟨i, x⟩ := c
    obtain ⟨hi, -, hm'⟩ := Memory.wf_cons.1 hm
    unfold Memory.write
    split
    · next hlt =>
      refine Memory.read_consCell fun c hc => ?_
      rcases List.mem_cons.1 hc with rfl | hc
      · exact hlt
      · exact hlt.trans (hi c hc)
    · split
      · next hji =>
        subst hji
        rw [Memory.read_consCell hi, Memory.read_cons]
        by_cases hk : k = j
        · simp [hk]
        · simp [hk, Ne.symm hk]
      · next hji =>
        rw [Memory.read_cons, Memory.read_cons, ih hm']
        by_cases hik : i = k
        · have : k ≠ j := fun h => hji (by omega)
          simp [hik, this]
        · simp [hik]

theorem Memory.mem_consCell {j : Nat} {v : Val} {m : Memory} {c : Nat × Val} (h : c ∈ Memory.consCell j v m) :
    c = (j, v) ∨ c ∈ m := by
  unfold Memory.consCell at h
  split at h
  · exact .inr h
  · exact List.mem_cons.1 h

/-- A cell after a write is the one written or was there before. -/
theorem Memory.mem_write {j : Nat} {v : Val} {m : Memory} {c : Nat × Val} (h : c ∈ Memory.write j v m) :
    c = (j, v) ∨ c ∈ m := by
  induction m with
  | nil => exact Memory.mem_consCell h
  | cons d m ih =>
    obtain ⟨k, x⟩ := d
    unfold Memory.write at h
    split at h
    · exact Memory.mem_consCell h
    · split at h
      · exact (Memory.mem_consCell h).imp id fun h => List.mem_cons.2 (.inr h)
      · rcases List.mem_cons.1 h with rfl | h
        · simp
        · exact (ih h).imp id fun h => List.mem_cons.2 (.inr h)

theorem Memory.wf_consCell {j : Nat} {v : Val} {m : Memory} (hm : Memory.wf m) (h : ∀ c ∈ m, j < c.1) :
    Memory.wf (Memory.consCell j v m) := by
  unfold Memory.consCell
  split
  · exact hm
  · next hv => exact Memory.wf_cons.2 ⟨h, hv, hm⟩

/-- A write keeps the canonical form. -/
theorem Memory.wf_write {m : Memory} (hm : Memory.wf m) (j : Nat) (v : Val) : Memory.wf (Memory.write j v m) := by
  induction m with
  | nil => exact Memory.wf_consCell hm (by simp)
  | cons c m ih =>
    obtain ⟨k, x⟩ := c
    obtain ⟨hk, hx, hm'⟩ := Memory.wf_cons.1 hm
    unfold Memory.write
    split
    · next hlt =>
      refine Memory.wf_consCell hm fun c hc => ?_
      rcases List.mem_cons.1 hc with rfl | hc
      · exact hlt
      · exact hlt.trans (hk c hc)
    · split
      · next hjk => exact Memory.wf_consCell hm' (hjk ▸ hk)
      · next hlt hjk =>
        refine Memory.wf_cons.2 ⟨fun c hc => ?_, hx, ih hm'⟩
        rcases Memory.mem_write hc with rfl | hc
        · show k < j
          omega
        · exact hk c hc

/-- In canonical form, equal contents are equal data. -/
theorem Memory.ext_of_wf {m n : Memory} (hm : Memory.wf m) (hn : Memory.wf n)
    (h : ∀ j, Memory.read j m = Memory.read j n) : m = n := by
  induction m generalizing n with
  | nil =>
    cases n with
    | nil => rfl
    | cons d n =>
      obtain ⟨k, y⟩ := d
      exact absurd (by simpa [Memory.read_cons] using (h k).symm) (Memory.wf_cons.1 hn).2.1
  | cons c m ih =>
    obtain ⟨k, x⟩ := c
    obtain ⟨hk, hx, hm'⟩ := Memory.wf_cons.1 hm
    cases n with
    | nil => exact absurd (by simpa [Memory.read_cons] using h k) hx
    | cons d n =>
      obtain ⟨l, y⟩ := d
      obtain ⟨hl, hy, hn'⟩ := Memory.wf_cons.1 hn
      have hkl : k = l := by
        rcases lt_trichotomy k l with hlt | heq | hgt
        · refine absurd ?_ hx
          have := h k
          rw [Memory.read_cons, if_pos rfl, Memory.read_cons, if_neg (by omega)] at this
          rw [this]
          exact Memory.read_below fun c hc => hlt.trans (hl c hc)
        · exact heq
        · refine absurd ?_ hy
          have := h l
          rw [Memory.read_cons, if_neg (by omega), Memory.read_cons, if_pos rfl] at this
          rw [← this]
          exact Memory.read_below fun c hc => hgt.trans (hk c hc)
      subst hkl
      have hxy : x = y := by simpa [Memory.read_cons] using h k
      subst hxy
      congr 1
      refine ih hm' hn' fun j => ?_
      by_cases hj : k = j
      · subst hj
        rw [Memory.read_below hk, Memory.read_below hl]
      · simpa [Memory.read_cons, hj] using h j

end Sys2Proof.Machine
end

