-- ==== Sys2Proof/Laws/PerInstr.lean ====
section
/-! SUPPORT. One law per command: the fields of its encoding are its opcode, its channel and its operand (R101, R107). -/

namespace Sys2Proof.Laws.EncodedFields

/-- The three fields of a command's word (R101). -/
def Statement (i : Instr) : Prop :=
  opField (encode i) = i.opcode ∧ selField (encode i) = i.selBits ∧ argField (encode i) = i.argBits

/-- The law of an assembled word, which every command's lemma is. -/
theorem of_assemble (i : Instr) : Statement i := by
  unfold Statement encode
  simp

theorem render (len : Arg) : Statement (.render len) := of_assemble _

theorem tick (now : Arg) : Statement (.tick now) := of_assemble _

theorem noteon (now : Arg) : Statement (.noteon now) := of_assemble _

theorem setfreq (ch : Sel) (hz : Arg) : Statement (.setfreq ch hz) := of_assemble _

theorem seten (ch : Sel) (en : Bool) : Statement (.seten ch en) := of_assemble _

theorem setch0 (ch : Sel) (hz : Arg) : Statement (.setch0 ch hz) := of_assemble _

theorem setch1 (ch : Sel) (hz : Arg) : Statement (.setch1 ch hz) := of_assemble _

theorem setmask (mask : BitVec 4) : Statement (.setmask mask) := of_assemble _

theorem sethcnt (n : Arg) : Statement (.sethcnt n) := of_assemble _

theorem sethvel (v : Arg) : Statement (.sethvel v) := of_assemble _

theorem setdoff (w : Arg) : Statement (.setdoff w) := of_assemble _

theorem setdrate (hz : Arg) : Statement (.setdrate hz) := of_assemble _

theorem setvdep (hz : Arg) : Statement (.setvdep hz) := of_assemble _

theorem setvrate (hz : Arg) : Statement (.setvrate hz) := of_assemble _

theorem setatk (seconds : Arg) : Statement (.setatk seconds) := of_assemble _

theorem setrel (seconds : Arg) : Statement (.setrel seconds) := of_assemble _

end Sys2Proof.Laws.EncodedFields
end

