-- ==== Sys2Proof/Laws/State.lean ====
section
/-! SUPPORT. For each named update of the state, what it leaves in each field. -/

namespace Sys2Proof.Machine

/-! ### storeDry -/

@[simp] theorem State.storeDry_sr (v : Val) (s : State) : (s.storeDry v).sr = s.sr := rfl
@[simp] theorem State.storeDry_channels (v : Val) (s : State) : (s.storeDry v).channels = s.channels := rfl
@[simp] theorem State.storeDry_volume (v : Val) (s : State) : (s.storeDry v).volume = s.volume := rfl
@[simp] theorem State.storeDry_wmask (v : Val) (s : State) : (s.storeDry v).wmask = s.wmask := rfl
@[simp] theorem State.storeDry_hcount (v : Val) (s : State) : (s.storeDry v).hcount = s.hcount := rfl
@[simp] theorem State.storeDry_hoffset (v : Val) (s : State) : (s.storeDry v).hoffset = s.hoffset := rfl
@[simp] theorem State.storeDry_hvel (v : Val) (s : State) : (s.storeDry v).hvel = s.hvel := rfl
@[simp] theorem State.storeDry_duty (v : Val) (s : State) : (s.storeDry v).duty = s.duty := rfl
@[simp] theorem State.storeDry_doff (v : Val) (s : State) : (s.storeDry v).doff = s.doff := rfl
@[simp] theorem State.storeDry_drate (v : Val) (s : State) : (s.storeDry v).drate = s.drate := rfl
@[simp] theorem State.storeDry_vdepth (v : Val) (s : State) : (s.storeDry v).vdepth = s.vdepth := rfl
@[simp] theorem State.storeDry_vrate (v : Val) (s : State) : (s.storeDry v).vrate = s.vrate := rfl
@[simp] theorem State.storeDry_fshift (v : Val) (s : State) : (s.storeDry v).fshift = s.fshift := rfl
@[simp] theorem State.storeDry_attack (v : Val) (s : State) : (s.storeDry v).attack = s.attack := rfl
@[simp] theorem State.storeDry_release (v : Val) (s : State) : (s.storeDry v).release = s.release := rfl
@[simp] theorem State.storeDry_envStart (v : Val) (s : State) : (s.storeDry v).envStart = s.envStart := rfl
@[simp] theorem State.storeDry_cursor (v : Val) (s : State) : (s.storeDry v).cursor = s.cursor := rfl
@[simp] theorem State.storeDry_rb (v : Val) (s : State) : (s.storeDry v).rb = Memory.write s.cursor v s.rb := rfl
@[simp] theorem State.storeDry_out (v : Val) (s : State) : (s.storeDry v).out = s.out := rfl
@[simp] theorem State.storeDry_running (v : Val) (s : State) : (s.storeDry v).running = s.running := rfl
@[simp] theorem State.storeDry_renderQ (v : Val) (s : State) : (s.storeDry v).renderQ = s.renderQ := rfl
@[simp] theorem State.storeDry_controlQ (v : Val) (s : State) : (s.storeDry v).controlQ = s.controlQ := rfl
@[simp] theorem State.storeDry_lifecycle (v : Val) (s : State) : (s.storeDry v).lifecycle = s.lifecycle := rfl
@[simp] theorem State.storeDry_arbSeq (v : Val) (s : State) : (s.storeDry v).arbSeq = s.arbSeq := rfl

/-! ### advanceCursor -/

@[simp] theorem State.advanceCursor_sr (s : State) : (s.advanceCursor).sr = s.sr := rfl
@[simp] theorem State.advanceCursor_channels (s : State) : (s.advanceCursor).channels = s.channels := rfl
@[simp] theorem State.advanceCursor_volume (s : State) : (s.advanceCursor).volume = s.volume := rfl
@[simp] theorem State.advanceCursor_wmask (s : State) : (s.advanceCursor).wmask = s.wmask := rfl
@[simp] theorem State.advanceCursor_hcount (s : State) : (s.advanceCursor).hcount = s.hcount := rfl
@[simp] theorem State.advanceCursor_hoffset (s : State) : (s.advanceCursor).hoffset = s.hoffset := rfl
@[simp] theorem State.advanceCursor_hvel (s : State) : (s.advanceCursor).hvel = s.hvel := rfl
@[simp] theorem State.advanceCursor_duty (s : State) : (s.advanceCursor).duty = s.duty := rfl
@[simp] theorem State.advanceCursor_doff (s : State) : (s.advanceCursor).doff = s.doff := rfl
@[simp] theorem State.advanceCursor_drate (s : State) : (s.advanceCursor).drate = s.drate := rfl
@[simp] theorem State.advanceCursor_vdepth (s : State) : (s.advanceCursor).vdepth = s.vdepth := rfl
@[simp] theorem State.advanceCursor_vrate (s : State) : (s.advanceCursor).vrate = s.vrate := rfl
@[simp] theorem State.advanceCursor_fshift (s : State) : (s.advanceCursor).fshift = s.fshift := rfl
@[simp] theorem State.advanceCursor_attack (s : State) : (s.advanceCursor).attack = s.attack := rfl
@[simp] theorem State.advanceCursor_release (s : State) : (s.advanceCursor).release = s.release := rfl
@[simp] theorem State.advanceCursor_envStart (s : State) : (s.advanceCursor).envStart = s.envStart := rfl
@[simp] theorem State.advanceCursor_cursor (s : State) : (s.advanceCursor).cursor = (s.cursor + 1) % s.rlen := rfl
@[simp] theorem State.advanceCursor_rb (s : State) : (s.advanceCursor).rb = s.rb := rfl
@[simp] theorem State.advanceCursor_out (s : State) : (s.advanceCursor).out = s.out := rfl
@[simp] theorem State.advanceCursor_running (s : State) : (s.advanceCursor).running = s.running := rfl
@[simp] theorem State.advanceCursor_renderQ (s : State) : (s.advanceCursor).renderQ = s.renderQ := rfl
@[simp] theorem State.advanceCursor_controlQ (s : State) : (s.advanceCursor).controlQ = s.controlQ := rfl
@[simp] theorem State.advanceCursor_lifecycle (s : State) : (s.advanceCursor).lifecycle = s.lifecycle := rfl
@[simp] theorem State.advanceCursor_arbSeq (s : State) : (s.advanceCursor).arbSeq = s.arbSeq := rfl

/-! ### emit -/

@[simp] theorem State.emit_sr (v : Val) (s : State) : (s.emit v).sr = s.sr := rfl
@[simp] theorem State.emit_channels (v : Val) (s : State) : (s.emit v).channels = s.channels := rfl
@[simp] theorem State.emit_volume (v : Val) (s : State) : (s.emit v).volume = s.volume := rfl
@[simp] theorem State.emit_wmask (v : Val) (s : State) : (s.emit v).wmask = s.wmask := rfl
@[simp] theorem State.emit_hcount (v : Val) (s : State) : (s.emit v).hcount = s.hcount := rfl
@[simp] theorem State.emit_hoffset (v : Val) (s : State) : (s.emit v).hoffset = s.hoffset := rfl
@[simp] theorem State.emit_hvel (v : Val) (s : State) : (s.emit v).hvel = s.hvel := rfl
@[simp] theorem State.emit_duty (v : Val) (s : State) : (s.emit v).duty = s.duty := rfl
@[simp] theorem State.emit_doff (v : Val) (s : State) : (s.emit v).doff = s.doff := rfl
@[simp] theorem State.emit_drate (v : Val) (s : State) : (s.emit v).drate = s.drate := rfl
@[simp] theorem State.emit_vdepth (v : Val) (s : State) : (s.emit v).vdepth = s.vdepth := rfl
@[simp] theorem State.emit_vrate (v : Val) (s : State) : (s.emit v).vrate = s.vrate := rfl
@[simp] theorem State.emit_fshift (v : Val) (s : State) : (s.emit v).fshift = s.fshift := rfl
@[simp] theorem State.emit_attack (v : Val) (s : State) : (s.emit v).attack = s.attack := rfl
@[simp] theorem State.emit_release (v : Val) (s : State) : (s.emit v).release = s.release := rfl
@[simp] theorem State.emit_envStart (v : Val) (s : State) : (s.emit v).envStart = s.envStart := rfl
@[simp] theorem State.emit_cursor (v : Val) (s : State) : (s.emit v).cursor = s.cursor := rfl
@[simp] theorem State.emit_rb (v : Val) (s : State) : (s.emit v).rb = s.rb := rfl
@[simp] theorem State.emit_out (v : Val) (s : State) : (s.emit v).out = s.out ++ [v] := rfl
@[simp] theorem State.emit_running (v : Val) (s : State) : (s.emit v).running = s.running := rfl
@[simp] theorem State.emit_renderQ (v : Val) (s : State) : (s.emit v).renderQ = s.renderQ := rfl
@[simp] theorem State.emit_controlQ (v : Val) (s : State) : (s.emit v).controlQ = s.controlQ := rfl
@[simp] theorem State.emit_lifecycle (v : Val) (s : State) : (s.emit v).lifecycle = s.lifecycle := rfl
@[simp] theorem State.emit_arbSeq (v : Val) (s : State) : (s.emit v).arbSeq = s.arbSeq := rfl

/-! ### renderSample -/

@[simp] theorem State.renderSample_sr (m : Val) (s : State) : (s.renderSample m).sr = s.sr := rfl
@[simp] theorem State.renderSample_channels (m : Val) (s : State) : (s.renderSample m).channels = s.channels := rfl
@[simp] theorem State.renderSample_volume (m : Val) (s : State) : (s.renderSample m).volume = s.volume := rfl
@[simp] theorem State.renderSample_wmask (m : Val) (s : State) : (s.renderSample m).wmask = s.wmask := rfl
@[simp] theorem State.renderSample_hcount (m : Val) (s : State) : (s.renderSample m).hcount = s.hcount := rfl
@[simp] theorem State.renderSample_hoffset (m : Val) (s : State) : (s.renderSample m).hoffset = s.hoffset := rfl
@[simp] theorem State.renderSample_hvel (m : Val) (s : State) : (s.renderSample m).hvel = s.hvel := rfl
@[simp] theorem State.renderSample_duty (m : Val) (s : State) : (s.renderSample m).duty = s.duty := rfl
@[simp] theorem State.renderSample_doff (m : Val) (s : State) : (s.renderSample m).doff = s.doff := rfl
@[simp] theorem State.renderSample_drate (m : Val) (s : State) : (s.renderSample m).drate = s.drate := rfl
@[simp] theorem State.renderSample_vdepth (m : Val) (s : State) : (s.renderSample m).vdepth = s.vdepth := rfl
@[simp] theorem State.renderSample_vrate (m : Val) (s : State) : (s.renderSample m).vrate = s.vrate := rfl
@[simp] theorem State.renderSample_fshift (m : Val) (s : State) : (s.renderSample m).fshift = s.fshift := rfl
@[simp] theorem State.renderSample_attack (m : Val) (s : State) : (s.renderSample m).attack = s.attack := rfl
@[simp] theorem State.renderSample_release (m : Val) (s : State) : (s.renderSample m).release = s.release := rfl
@[simp] theorem State.renderSample_envStart (m : Val) (s : State) : (s.renderSample m).envStart = s.envStart := rfl
@[simp] theorem State.renderSample_cursor (m : Val) (s : State) : (s.renderSample m).cursor = (s.cursor + 1) % s.rlen := rfl
@[simp] theorem State.renderSample_rb (m : Val) (s : State) : (s.renderSample m).rb = Memory.write s.cursor m s.rb := rfl
@[simp] theorem State.renderSample_out (m : Val) (s : State) : (s.renderSample m).out = s.out ++ [s.outSample m] := rfl
@[simp] theorem State.renderSample_running (m : Val) (s : State) : (s.renderSample m).running = s.running := rfl
@[simp] theorem State.renderSample_renderQ (m : Val) (s : State) : (s.renderSample m).renderQ = s.renderQ := rfl
@[simp] theorem State.renderSample_controlQ (m : Val) (s : State) : (s.renderSample m).controlQ = s.controlQ := rfl
@[simp] theorem State.renderSample_lifecycle (m : Val) (s : State) : (s.renderSample m).lifecycle = s.lifecycle := rfl
@[simp] theorem State.renderSample_arbSeq (m : Val) (s : State) : (s.renderSample m).arbSeq = s.arbSeq := rfl

/-! ### writeBack -/

@[simp] theorem State.writeBack_sr (len : Nat) (s : State) : (s.writeBack len).sr = s.sr := rfl
@[simp] theorem State.writeBack_channels (len : Nat) (s : State) : (s.writeBack len).channels = s.channels.map (s.phaseAfter len) := rfl
@[simp] theorem State.writeBack_volume (len : Nat) (s : State) : (s.writeBack len).volume = s.volume := rfl
@[simp] theorem State.writeBack_wmask (len : Nat) (s : State) : (s.writeBack len).wmask = s.wmask := rfl
@[simp] theorem State.writeBack_hcount (len : Nat) (s : State) : (s.writeBack len).hcount = s.hcount := rfl
@[simp] theorem State.writeBack_hoffset (len : Nat) (s : State) : (s.writeBack len).hoffset = s.hoffset := rfl
@[simp] theorem State.writeBack_hvel (len : Nat) (s : State) : (s.writeBack len).hvel = s.hvel := rfl
@[simp] theorem State.writeBack_duty (len : Nat) (s : State) : (s.writeBack len).duty = s.duty := rfl
@[simp] theorem State.writeBack_doff (len : Nat) (s : State) : (s.writeBack len).doff = s.doff := rfl
@[simp] theorem State.writeBack_drate (len : Nat) (s : State) : (s.writeBack len).drate = s.drate := rfl
@[simp] theorem State.writeBack_vdepth (len : Nat) (s : State) : (s.writeBack len).vdepth = s.vdepth := rfl
@[simp] theorem State.writeBack_vrate (len : Nat) (s : State) : (s.writeBack len).vrate = s.vrate := rfl
@[simp] theorem State.writeBack_fshift (len : Nat) (s : State) : (s.writeBack len).fshift = s.fshift := rfl
@[simp] theorem State.writeBack_attack (len : Nat) (s : State) : (s.writeBack len).attack = s.attack := rfl
@[simp] theorem State.writeBack_release (len : Nat) (s : State) : (s.writeBack len).release = s.release := rfl
@[simp] theorem State.writeBack_envStart (len : Nat) (s : State) : (s.writeBack len).envStart = s.envStart := rfl
@[simp] theorem State.writeBack_cursor (len : Nat) (s : State) : (s.writeBack len).cursor = s.cursor := rfl
@[simp] theorem State.writeBack_rb (len : Nat) (s : State) : (s.writeBack len).rb = s.rb := rfl
@[simp] theorem State.writeBack_out (len : Nat) (s : State) : (s.writeBack len).out = s.out := rfl
@[simp] theorem State.writeBack_running (len : Nat) (s : State) : (s.writeBack len).running = s.running := rfl
@[simp] theorem State.writeBack_renderQ (len : Nat) (s : State) : (s.writeBack len).renderQ = s.renderQ := rfl
@[simp] theorem State.writeBack_controlQ (len : Nat) (s : State) : (s.writeBack len).controlQ = s.controlQ := rfl
@[simp] theorem State.writeBack_lifecycle (len : Nat) (s : State) : (s.writeBack len).lifecycle = s.lifecycle := rfl
@[simp] theorem State.writeBack_arbSeq (len : Nat) (s : State) : (s.writeBack len).arbSeq = s.arbSeq := rfl

/-! ### envelope -/

@[simp] theorem State.envelope_sr (e : Val) (s : State) : (s.envelope e).sr = s.sr := rfl
@[simp] theorem State.envelope_channels (e : Val) (s : State) : (s.envelope e).channels = s.channels := rfl
@[simp] theorem State.envelope_volume (e : Val) (s : State) : (s.envelope e).volume = envelopeAt s.attack s.release e := rfl
@[simp] theorem State.envelope_wmask (e : Val) (s : State) : (s.envelope e).wmask = s.wmask := rfl
@[simp] theorem State.envelope_hcount (e : Val) (s : State) : (s.envelope e).hcount = s.hcount := rfl
@[simp] theorem State.envelope_hoffset (e : Val) (s : State) : (s.envelope e).hoffset = s.hoffset := rfl
@[simp] theorem State.envelope_hvel (e : Val) (s : State) : (s.envelope e).hvel = s.hvel := rfl
@[simp] theorem State.envelope_duty (e : Val) (s : State) : (s.envelope e).duty = s.duty := rfl
@[simp] theorem State.envelope_doff (e : Val) (s : State) : (s.envelope e).doff = s.doff := rfl
@[simp] theorem State.envelope_drate (e : Val) (s : State) : (s.envelope e).drate = s.drate := rfl
@[simp] theorem State.envelope_vdepth (e : Val) (s : State) : (s.envelope e).vdepth = s.vdepth := rfl
@[simp] theorem State.envelope_vrate (e : Val) (s : State) : (s.envelope e).vrate = s.vrate := rfl
@[simp] theorem State.envelope_fshift (e : Val) (s : State) : (s.envelope e).fshift = s.fshift := rfl
@[simp] theorem State.envelope_attack (e : Val) (s : State) : (s.envelope e).attack = s.attack := rfl
@[simp] theorem State.envelope_release (e : Val) (s : State) : (s.envelope e).release = s.release := rfl
@[simp] theorem State.envelope_envStart (e : Val) (s : State) : (s.envelope e).envStart = s.envStart := rfl
@[simp] theorem State.envelope_cursor (e : Val) (s : State) : (s.envelope e).cursor = s.cursor := rfl
@[simp] theorem State.envelope_rb (e : Val) (s : State) : (s.envelope e).rb = s.rb := rfl
@[simp] theorem State.envelope_out (e : Val) (s : State) : (s.envelope e).out = s.out := rfl
@[simp] theorem State.envelope_running (e : Val) (s : State) : (s.envelope e).running = s.running := rfl
@[simp] theorem State.envelope_renderQ (e : Val) (s : State) : (s.envelope e).renderQ = s.renderQ := rfl
@[simp] theorem State.envelope_controlQ (e : Val) (s : State) : (s.envelope e).controlQ = s.controlQ := rfl
@[simp] theorem State.envelope_lifecycle (e : Val) (s : State) : (s.envelope e).lifecycle = s.lifecycle := rfl
@[simp] theorem State.envelope_arbSeq (e : Val) (s : State) : (s.envelope e).arbSeq = s.arbSeq := rfl

/-! ### vibrato -/

@[simp] theorem State.vibrato_sr (e : Val) (s : State) : (s.vibrato e).sr = s.sr := rfl
@[simp] theorem State.vibrato_channels (e : Val) (s : State) : (s.vibrato e).channels = s.channels := rfl
@[simp] theorem State.vibrato_volume (e : Val) (s : State) : (s.vibrato e).volume = s.volume := rfl
@[simp] theorem State.vibrato_wmask (e : Val) (s : State) : (s.vibrato e).wmask = s.wmask := rfl
@[simp] theorem State.vibrato_hcount (e : Val) (s : State) : (s.vibrato e).hcount = s.hcount := rfl
@[simp] theorem State.vibrato_hoffset (e : Val) (s : State) : (s.vibrato e).hoffset = s.hoffset := rfl
@[simp] theorem State.vibrato_hvel (e : Val) (s : State) : (s.vibrato e).hvel = s.hvel := rfl
@[simp] theorem State.vibrato_duty (e : Val) (s : State) : (s.vibrato e).duty = s.duty := rfl
@[simp] theorem State.vibrato_doff (e : Val) (s : State) : (s.vibrato e).doff = s.doff := rfl
@[simp] theorem State.vibrato_drate (e : Val) (s : State) : (s.vibrato e).drate = s.drate := rfl
@[simp] theorem State.vibrato_vdepth (e : Val) (s : State) : (s.vibrato e).vdepth = s.vdepth := rfl
@[simp] theorem State.vibrato_vrate (e : Val) (s : State) : (s.vibrato e).vrate = s.vrate := rfl
@[simp] theorem State.vibrato_fshift (e : Val) (s : State) : (s.vibrato e).fshift = s.vdepth * sinT (s.vrate * e) := rfl
@[simp] theorem State.vibrato_attack (e : Val) (s : State) : (s.vibrato e).attack = s.attack := rfl
@[simp] theorem State.vibrato_release (e : Val) (s : State) : (s.vibrato e).release = s.release := rfl
@[simp] theorem State.vibrato_envStart (e : Val) (s : State) : (s.vibrato e).envStart = s.envStart := rfl
@[simp] theorem State.vibrato_cursor (e : Val) (s : State) : (s.vibrato e).cursor = s.cursor := rfl
@[simp] theorem State.vibrato_rb (e : Val) (s : State) : (s.vibrato e).rb = s.rb := rfl
@[simp] theorem State.vibrato_out (e : Val) (s : State) : (s.vibrato e).out = s.out := rfl
@[simp] theorem State.vibrato_running (e : Val) (s : State) : (s.vibrato e).running = s.running := rfl
@[simp] theorem State.vibrato_renderQ (e : Val) (s : State) : (s.vibrato e).renderQ = s.renderQ := rfl
@[simp] theorem State.vibrato_controlQ (e : Val) (s : State) : (s.vibrato e).controlQ = s.controlQ := rfl
@[simp] theorem State.vibrato_lifecycle (e : Val) (s : State) : (s.vibrato e).lifecycle = s.lifecycle := rfl
@[simp] theorem State.vibrato_arbSeq (e : Val) (s : State) : (s.vibrato e).arbSeq = s.arbSeq := rfl

/-! ### drift -/

@[simp] theorem State.drift_sr (s : State) : (s.drift).sr = s.sr := rfl
@[simp] theorem State.drift_channels (s : State) : (s.drift).channels = s.channels := rfl
@[simp] theorem State.drift_volume (s : State) : (s.drift).volume = s.volume := rfl
@[simp] theorem State.drift_wmask (s : State) : (s.drift).wmask = s.wmask := rfl
@[simp] theorem State.drift_hcount (s : State) : (s.drift).hcount = s.hcount := rfl
@[simp] theorem State.drift_hoffset (s : State) : (s.drift).hoffset = s.hoffset + s.hvel := rfl
@[simp] theorem State.drift_hvel (s : State) : (s.drift).hvel = s.hvel := rfl
@[simp] theorem State.drift_duty (s : State) : (s.drift).duty = s.duty := rfl
@[simp] theorem State.drift_doff (s : State) : (s.drift).doff = s.doff := rfl
@[simp] theorem State.drift_drate (s : State) : (s.drift).drate = s.drate := rfl
@[simp] theorem State.drift_vdepth (s : State) : (s.drift).vdepth = s.vdepth := rfl
@[simp] theorem State.drift_vrate (s : State) : (s.drift).vrate = s.vrate := rfl
@[simp] theorem State.drift_fshift (s : State) : (s.drift).fshift = s.fshift := rfl
@[simp] theorem State.drift_attack (s : State) : (s.drift).attack = s.attack := rfl
@[simp] theorem State.drift_release (s : State) : (s.drift).release = s.release := rfl
@[simp] theorem State.drift_envStart (s : State) : (s.drift).envStart = s.envStart := rfl
@[simp] theorem State.drift_cursor (s : State) : (s.drift).cursor = s.cursor := rfl
@[simp] theorem State.drift_rb (s : State) : (s.drift).rb = s.rb := rfl
@[simp] theorem State.drift_out (s : State) : (s.drift).out = s.out := rfl
@[simp] theorem State.drift_running (s : State) : (s.drift).running = s.running := rfl
@[simp] theorem State.drift_renderQ (s : State) : (s.drift).renderQ = s.renderQ := rfl
@[simp] theorem State.drift_controlQ (s : State) : (s.drift).controlQ = s.controlQ := rfl
@[simp] theorem State.drift_lifecycle (s : State) : (s.drift).lifecycle = s.lifecycle := rfl
@[simp] theorem State.drift_arbSeq (s : State) : (s.drift).arbSeq = s.arbSeq := rfl

/-! ### dutyUpdate -/

@[simp] theorem State.dutyUpdate_sr (e : Val) (s : State) : (s.dutyUpdate e).sr = s.sr := rfl
@[simp] theorem State.dutyUpdate_channels (e : Val) (s : State) : (s.dutyUpdate e).channels = s.channels := rfl
@[simp] theorem State.dutyUpdate_volume (e : Val) (s : State) : (s.dutyUpdate e).volume = s.volume := rfl
@[simp] theorem State.dutyUpdate_wmask (e : Val) (s : State) : (s.dutyUpdate e).wmask = s.wmask := rfl
@[simp] theorem State.dutyUpdate_hcount (e : Val) (s : State) : (s.dutyUpdate e).hcount = s.hcount := rfl
@[simp] theorem State.dutyUpdate_hoffset (e : Val) (s : State) : (s.dutyUpdate e).hoffset = s.hoffset := rfl
@[simp] theorem State.dutyUpdate_hvel (e : Val) (s : State) : (s.dutyUpdate e).hvel = s.hvel := rfl
@[simp] theorem State.dutyUpdate_duty (e : Val) (s : State) : (s.dutyUpdate e).duty = dutyAt s.drate s.doff e := rfl
@[simp] theorem State.dutyUpdate_doff (e : Val) (s : State) : (s.dutyUpdate e).doff = s.doff := rfl
@[simp] theorem State.dutyUpdate_drate (e : Val) (s : State) : (s.dutyUpdate e).drate = s.drate := rfl
@[simp] theorem State.dutyUpdate_vdepth (e : Val) (s : State) : (s.dutyUpdate e).vdepth = s.vdepth := rfl
@[simp] theorem State.dutyUpdate_vrate (e : Val) (s : State) : (s.dutyUpdate e).vrate = s.vrate := rfl
@[simp] theorem State.dutyUpdate_fshift (e : Val) (s : State) : (s.dutyUpdate e).fshift = s.fshift := rfl
@[simp] theorem State.dutyUpdate_attack (e : Val) (s : State) : (s.dutyUpdate e).attack = s.attack := rfl
@[simp] theorem State.dutyUpdate_release (e : Val) (s : State) : (s.dutyUpdate e).release = s.release := rfl
@[simp] theorem State.dutyUpdate_envStart (e : Val) (s : State) : (s.dutyUpdate e).envStart = s.envStart := rfl
@[simp] theorem State.dutyUpdate_cursor (e : Val) (s : State) : (s.dutyUpdate e).cursor = s.cursor := rfl
@[simp] theorem State.dutyUpdate_rb (e : Val) (s : State) : (s.dutyUpdate e).rb = s.rb := rfl
@[simp] theorem State.dutyUpdate_out (e : Val) (s : State) : (s.dutyUpdate e).out = s.out := rfl
@[simp] theorem State.dutyUpdate_running (e : Val) (s : State) : (s.dutyUpdate e).running = s.running := rfl
@[simp] theorem State.dutyUpdate_renderQ (e : Val) (s : State) : (s.dutyUpdate e).renderQ = s.renderQ := rfl
@[simp] theorem State.dutyUpdate_controlQ (e : Val) (s : State) : (s.dutyUpdate e).controlQ = s.controlQ := rfl
@[simp] theorem State.dutyUpdate_lifecycle (e : Val) (s : State) : (s.dutyUpdate e).lifecycle = s.lifecycle := rfl
@[simp] theorem State.dutyUpdate_arbSeq (e : Val) (s : State) : (s.dutyUpdate e).arbSeq = s.arbSeq := rfl

/-! ### takeRender -/

@[simp] theorem State.takeRender_sr (q : List Word48) (s : State) : (s.takeRender q).sr = s.sr := rfl
@[simp] theorem State.takeRender_channels (q : List Word48) (s : State) : (s.takeRender q).channels = s.channels := rfl
@[simp] theorem State.takeRender_volume (q : List Word48) (s : State) : (s.takeRender q).volume = s.volume := rfl
@[simp] theorem State.takeRender_wmask (q : List Word48) (s : State) : (s.takeRender q).wmask = s.wmask := rfl
@[simp] theorem State.takeRender_hcount (q : List Word48) (s : State) : (s.takeRender q).hcount = s.hcount := rfl
@[simp] theorem State.takeRender_hoffset (q : List Word48) (s : State) : (s.takeRender q).hoffset = s.hoffset := rfl
@[simp] theorem State.takeRender_hvel (q : List Word48) (s : State) : (s.takeRender q).hvel = s.hvel := rfl
@[simp] theorem State.takeRender_duty (q : List Word48) (s : State) : (s.takeRender q).duty = s.duty := rfl
@[simp] theorem State.takeRender_doff (q : List Word48) (s : State) : (s.takeRender q).doff = s.doff := rfl
@[simp] theorem State.takeRender_drate (q : List Word48) (s : State) : (s.takeRender q).drate = s.drate := rfl
@[simp] theorem State.takeRender_vdepth (q : List Word48) (s : State) : (s.takeRender q).vdepth = s.vdepth := rfl
@[simp] theorem State.takeRender_vrate (q : List Word48) (s : State) : (s.takeRender q).vrate = s.vrate := rfl
@[simp] theorem State.takeRender_fshift (q : List Word48) (s : State) : (s.takeRender q).fshift = s.fshift := rfl
@[simp] theorem State.takeRender_attack (q : List Word48) (s : State) : (s.takeRender q).attack = s.attack := rfl
@[simp] theorem State.takeRender_release (q : List Word48) (s : State) : (s.takeRender q).release = s.release := rfl
@[simp] theorem State.takeRender_envStart (q : List Word48) (s : State) : (s.takeRender q).envStart = s.envStart := rfl
@[simp] theorem State.takeRender_cursor (q : List Word48) (s : State) : (s.takeRender q).cursor = s.cursor := rfl
@[simp] theorem State.takeRender_rb (q : List Word48) (s : State) : (s.takeRender q).rb = s.rb := rfl
@[simp] theorem State.takeRender_out (q : List Word48) (s : State) : (s.takeRender q).out = s.out := rfl
@[simp] theorem State.takeRender_running (q : List Word48) (s : State) : (s.takeRender q).running = s.running := rfl
@[simp] theorem State.takeRender_renderQ (q : List Word48) (s : State) : (s.takeRender q).renderQ = q := rfl
@[simp] theorem State.takeRender_controlQ (q : List Word48) (s : State) : (s.takeRender q).controlQ = s.controlQ := rfl
@[simp] theorem State.takeRender_lifecycle (q : List Word48) (s : State) : (s.takeRender q).lifecycle = s.lifecycle := rfl
@[simp] theorem State.takeRender_arbSeq (q : List Word48) (s : State) : (s.takeRender q).arbSeq = s.arbSeq := rfl

/-! ### takeControl -/

@[simp] theorem State.takeControl_sr (q : List Word48) (s : State) : (s.takeControl q).sr = s.sr := rfl
@[simp] theorem State.takeControl_channels (q : List Word48) (s : State) : (s.takeControl q).channels = s.channels := rfl
@[simp] theorem State.takeControl_volume (q : List Word48) (s : State) : (s.takeControl q).volume = s.volume := rfl
@[simp] theorem State.takeControl_wmask (q : List Word48) (s : State) : (s.takeControl q).wmask = s.wmask := rfl
@[simp] theorem State.takeControl_hcount (q : List Word48) (s : State) : (s.takeControl q).hcount = s.hcount := rfl
@[simp] theorem State.takeControl_hoffset (q : List Word48) (s : State) : (s.takeControl q).hoffset = s.hoffset := rfl
@[simp] theorem State.takeControl_hvel (q : List Word48) (s : State) : (s.takeControl q).hvel = s.hvel := rfl
@[simp] theorem State.takeControl_duty (q : List Word48) (s : State) : (s.takeControl q).duty = s.duty := rfl
@[simp] theorem State.takeControl_doff (q : List Word48) (s : State) : (s.takeControl q).doff = s.doff := rfl
@[simp] theorem State.takeControl_drate (q : List Word48) (s : State) : (s.takeControl q).drate = s.drate := rfl
@[simp] theorem State.takeControl_vdepth (q : List Word48) (s : State) : (s.takeControl q).vdepth = s.vdepth := rfl
@[simp] theorem State.takeControl_vrate (q : List Word48) (s : State) : (s.takeControl q).vrate = s.vrate := rfl
@[simp] theorem State.takeControl_fshift (q : List Word48) (s : State) : (s.takeControl q).fshift = s.fshift := rfl
@[simp] theorem State.takeControl_attack (q : List Word48) (s : State) : (s.takeControl q).attack = s.attack := rfl
@[simp] theorem State.takeControl_release (q : List Word48) (s : State) : (s.takeControl q).release = s.release := rfl
@[simp] theorem State.takeControl_envStart (q : List Word48) (s : State) : (s.takeControl q).envStart = s.envStart := rfl
@[simp] theorem State.takeControl_cursor (q : List Word48) (s : State) : (s.takeControl q).cursor = s.cursor := rfl
@[simp] theorem State.takeControl_rb (q : List Word48) (s : State) : (s.takeControl q).rb = s.rb := rfl
@[simp] theorem State.takeControl_out (q : List Word48) (s : State) : (s.takeControl q).out = s.out := rfl
@[simp] theorem State.takeControl_running (q : List Word48) (s : State) : (s.takeControl q).running = s.running := rfl
@[simp] theorem State.takeControl_renderQ (q : List Word48) (s : State) : (s.takeControl q).renderQ = s.renderQ := rfl
@[simp] theorem State.takeControl_controlQ (q : List Word48) (s : State) : (s.takeControl q).controlQ = q := rfl
@[simp] theorem State.takeControl_lifecycle (q : List Word48) (s : State) : (s.takeControl q).lifecycle = s.lifecycle := rfl
@[simp] theorem State.takeControl_arbSeq (q : List Word48) (s : State) : (s.takeControl q).arbSeq = s.arbSeq := rfl

/-! ### countChoice -/

@[simp] theorem State.countChoice_sr (s : State) : (s.countChoice).sr = s.sr := rfl
@[simp] theorem State.countChoice_channels (s : State) : (s.countChoice).channels = s.channels := rfl
@[simp] theorem State.countChoice_volume (s : State) : (s.countChoice).volume = s.volume := rfl
@[simp] theorem State.countChoice_wmask (s : State) : (s.countChoice).wmask = s.wmask := rfl
@[simp] theorem State.countChoice_hcount (s : State) : (s.countChoice).hcount = s.hcount := rfl
@[simp] theorem State.countChoice_hoffset (s : State) : (s.countChoice).hoffset = s.hoffset := rfl
@[simp] theorem State.countChoice_hvel (s : State) : (s.countChoice).hvel = s.hvel := rfl
@[simp] theorem State.countChoice_duty (s : State) : (s.countChoice).duty = s.duty := rfl
@[simp] theorem State.countChoice_doff (s : State) : (s.countChoice).doff = s.doff := rfl
@[simp] theorem State.countChoice_drate (s : State) : (s.countChoice).drate = s.drate := rfl
@[simp] theorem State.countChoice_vdepth (s : State) : (s.countChoice).vdepth = s.vdepth := rfl
@[simp] theorem State.countChoice_vrate (s : State) : (s.countChoice).vrate = s.vrate := rfl
@[simp] theorem State.countChoice_fshift (s : State) : (s.countChoice).fshift = s.fshift := rfl
@[simp] theorem State.countChoice_attack (s : State) : (s.countChoice).attack = s.attack := rfl
@[simp] theorem State.countChoice_release (s : State) : (s.countChoice).release = s.release := rfl
@[simp] theorem State.countChoice_envStart (s : State) : (s.countChoice).envStart = s.envStart := rfl
@[simp] theorem State.countChoice_cursor (s : State) : (s.countChoice).cursor = s.cursor := rfl
@[simp] theorem State.countChoice_rb (s : State) : (s.countChoice).rb = s.rb := rfl
@[simp] theorem State.countChoice_out (s : State) : (s.countChoice).out = s.out := rfl
@[simp] theorem State.countChoice_running (s : State) : (s.countChoice).running = s.running := rfl
@[simp] theorem State.countChoice_renderQ (s : State) : (s.countChoice).renderQ = s.renderQ := rfl
@[simp] theorem State.countChoice_controlQ (s : State) : (s.countChoice).controlQ = s.controlQ := rfl
@[simp] theorem State.countChoice_lifecycle (s : State) : (s.countChoice).lifecycle = s.lifecycle := rfl
@[simp] theorem State.countChoice_arbSeq (s : State) : (s.countChoice).arbSeq = s.arbSeq + 1 := rfl

/-! ### placeWord -/

@[simp] theorem State.placeWord_sr (w : Word48) (s : State) : (s.placeWord w).sr = s.sr := rfl
@[simp] theorem State.placeWord_channels (w : Word48) (s : State) : (s.placeWord w).channels = s.channels := rfl
@[simp] theorem State.placeWord_volume (w : Word48) (s : State) : (s.placeWord w).volume = s.volume := rfl
@[simp] theorem State.placeWord_wmask (w : Word48) (s : State) : (s.placeWord w).wmask = s.wmask := rfl
@[simp] theorem State.placeWord_hcount (w : Word48) (s : State) : (s.placeWord w).hcount = s.hcount := rfl
@[simp] theorem State.placeWord_hoffset (w : Word48) (s : State) : (s.placeWord w).hoffset = s.hoffset := rfl
@[simp] theorem State.placeWord_hvel (w : Word48) (s : State) : (s.placeWord w).hvel = s.hvel := rfl
@[simp] theorem State.placeWord_duty (w : Word48) (s : State) : (s.placeWord w).duty = s.duty := rfl
@[simp] theorem State.placeWord_doff (w : Word48) (s : State) : (s.placeWord w).doff = s.doff := rfl
@[simp] theorem State.placeWord_drate (w : Word48) (s : State) : (s.placeWord w).drate = s.drate := rfl
@[simp] theorem State.placeWord_vdepth (w : Word48) (s : State) : (s.placeWord w).vdepth = s.vdepth := rfl
@[simp] theorem State.placeWord_vrate (w : Word48) (s : State) : (s.placeWord w).vrate = s.vrate := rfl
@[simp] theorem State.placeWord_fshift (w : Word48) (s : State) : (s.placeWord w).fshift = s.fshift := rfl
@[simp] theorem State.placeWord_attack (w : Word48) (s : State) : (s.placeWord w).attack = s.attack := rfl
@[simp] theorem State.placeWord_release (w : Word48) (s : State) : (s.placeWord w).release = s.release := rfl
@[simp] theorem State.placeWord_envStart (w : Word48) (s : State) : (s.placeWord w).envStart = s.envStart := rfl
@[simp] theorem State.placeWord_cursor (w : Word48) (s : State) : (s.placeWord w).cursor = s.cursor := rfl
@[simp] theorem State.placeWord_rb (w : Word48) (s : State) : (s.placeWord w).rb = s.rb := rfl
@[simp] theorem State.placeWord_out (w : Word48) (s : State) : (s.placeWord w).out = s.out := rfl
@[simp] theorem State.placeWord_running (w : Word48) (s : State) : (s.placeWord w).running = true := rfl
@[simp] theorem State.placeWord_renderQ (w : Word48) (s : State) : (s.placeWord w).renderQ = [] := rfl
@[simp] theorem State.placeWord_controlQ (w : Word48) (s : State) : (s.placeWord w).controlQ = w :: s.controlQ := rfl
@[simp] theorem State.placeWord_lifecycle (w : Word48) (s : State) : (s.placeWord w).lifecycle = s.lifecycle := rfl
@[simp] theorem State.placeWord_arbSeq (w : Word48) (s : State) : (s.placeWord w).arbSeq = s.arbSeq := rfl

/-! ### updChannel -/

theorem State.updChannel_of_lt {ch : Sel} (f : Channel → Channel) (s : State) (h : ch.toNat < Config.nch) :
    s.updChannel ch f = { s with channels := s.channels.set ch.toNat (f s.channels[ch.toNat]) h } :=
  dif_pos h

theorem State.updChannel_of_not_lt {ch : Sel} (f : Channel → Channel) (s : State) (h : ¬ ch.toNat < Config.nch) :
    s.updChannel ch f = s :=
  dif_neg h

/-- All `updChannel` can do: at most the channel file changes. -/
theorem State.updChannel_frame (ch : Sel) (f : Channel → Channel) (s : State) :
    s.updChannel ch f = { s with channels := (s.updChannel ch f).channels } := by
  by_cases h : ch.toNat < Config.nch
  · rw [State.updChannel_of_lt f s h]
  · rw [State.updChannel_of_not_lt f s h]

@[simp] theorem State.updChannel_sr (ch : Sel) (f : Channel → Channel) (s : State) : (s.updChannel ch f).sr = s.sr := by
  rw [State.updChannel_frame]
@[simp] theorem State.updChannel_volume (ch : Sel) (f : Channel → Channel) (s : State) : (s.updChannel ch f).volume = s.volume := by
  rw [State.updChannel_frame]
@[simp] theorem State.updChannel_wmask (ch : Sel) (f : Channel → Channel) (s : State) : (s.updChannel ch f).wmask = s.wmask := by
  rw [State.updChannel_frame]
@[simp] theorem State.updChannel_hcount (ch : Sel) (f : Channel → Channel) (s : State) : (s.updChannel ch f).hcount = s.hcount := by
  rw [State.updChannel_frame]
@[simp] theorem State.updChannel_hoffset (ch : Sel) (f : Channel → Channel) (s : State) : (s.updChannel ch f).hoffset = s.hoffset := by
  rw [State.updChannel_frame]
@[simp] theorem State.updChannel_hvel (ch : Sel) (f : Channel → Channel) (s : State) : (s.updChannel ch f).hvel = s.hvel := by
  rw [State.updChannel_frame]
@[simp] theorem State.updChannel_duty (ch : Sel) (f : Channel → Channel) (s : State) : (s.updChannel ch f).duty = s.duty := by
  rw [State.updChannel_frame]
@[simp] theorem State.updChannel_doff (ch : Sel) (f : Channel → Channel) (s : State) : (s.updChannel ch f).doff = s.doff := by
  rw [State.updChannel_frame]
@[simp] theorem State.updChannel_drate (ch : Sel) (f : Channel → Channel) (s : State) : (s.updChannel ch f).drate = s.drate := by
  rw [State.updChannel_frame]
@[simp] theorem State.updChannel_vdepth (ch : Sel) (f : Channel → Channel) (s : State) : (s.updChannel ch f).vdepth = s.vdepth := by
  rw [State.updChannel_frame]
@[simp] theorem State.updChannel_vrate (ch : Sel) (f : Channel → Channel) (s : State) : (s.updChannel ch f).vrate = s.vrate := by
  rw [State.updChannel_frame]
@[simp] theorem State.updChannel_fshift (ch : Sel) (f : Channel → Channel) (s : State) : (s.updChannel ch f).fshift = s.fshift := by
  rw [State.updChannel_frame]
@[simp] theorem State.updChannel_attack (ch : Sel) (f : Channel → Channel) (s : State) : (s.updChannel ch f).attack = s.attack := by
  rw [State.updChannel_frame]
@[simp] theorem State.updChannel_release (ch : Sel) (f : Channel → Channel) (s : State) : (s.updChannel ch f).release = s.release := by
  rw [State.updChannel_frame]
@[simp] theorem State.updChannel_envStart (ch : Sel) (f : Channel → Channel) (s : State) : (s.updChannel ch f).envStart = s.envStart := by
  rw [State.updChannel_frame]
@[simp] theorem State.updChannel_cursor (ch : Sel) (f : Channel → Channel) (s : State) : (s.updChannel ch f).cursor = s.cursor := by
  rw [State.updChannel_frame]
@[simp] theorem State.updChannel_rb (ch : Sel) (f : Channel → Channel) (s : State) : (s.updChannel ch f).rb = s.rb := by
  rw [State.updChannel_frame]
@[simp] theorem State.updChannel_out (ch : Sel) (f : Channel → Channel) (s : State) : (s.updChannel ch f).out = s.out := by
  rw [State.updChannel_frame]
@[simp] theorem State.updChannel_running (ch : Sel) (f : Channel → Channel) (s : State) : (s.updChannel ch f).running = s.running := by
  rw [State.updChannel_frame]
@[simp] theorem State.updChannel_renderQ (ch : Sel) (f : Channel → Channel) (s : State) : (s.updChannel ch f).renderQ = s.renderQ := by
  rw [State.updChannel_frame]
@[simp] theorem State.updChannel_controlQ (ch : Sel) (f : Channel → Channel) (s : State) : (s.updChannel ch f).controlQ = s.controlQ := by
  rw [State.updChannel_frame]
@[simp] theorem State.updChannel_lifecycle (ch : Sel) (f : Channel → Channel) (s : State) : (s.updChannel ch f).lifecycle = s.lifecycle := by
  rw [State.updChannel_frame]
@[simp] theorem State.updChannel_arbSeq (ch : Sel) (f : Channel → Channel) (s : State) : (s.updChannel ch f).arbSeq = s.arbSeq := by
  rw [State.updChannel_frame]

/-! ### renderLoop -/

/-- What no sample changes, the loop does not change. -/
theorem State.renderLoop_keeps {α : Type} (view : State → α) (h : ∀ m s, view (s.renderSample m) = view s)
    (mixes : Nat → Val) (n i : Nat) (s : State) : view (s.renderLoop mixes n i) = view s := by
  induction n generalizing i s with
  | zero => rfl
  | succ n ih => exact (ih (i + 1) (s.renderSample (mixes i))).trans (h (mixes i) s)

@[simp] theorem State.renderLoop_sr (mixes : Nat → Val) (n i : Nat) (s : State) :
    (s.renderLoop mixes n i).sr = s.sr :=
  State.renderLoop_keeps State.sr (fun _ _ => rfl) mixes n i s
@[simp] theorem State.renderLoop_channels (mixes : Nat → Val) (n i : Nat) (s : State) :
    (s.renderLoop mixes n i).channels = s.channels :=
  State.renderLoop_keeps State.channels (fun _ _ => rfl) mixes n i s
@[simp] theorem State.renderLoop_volume (mixes : Nat → Val) (n i : Nat) (s : State) :
    (s.renderLoop mixes n i).volume = s.volume :=
  State.renderLoop_keeps State.volume (fun _ _ => rfl) mixes n i s
@[simp] theorem State.renderLoop_wmask (mixes : Nat → Val) (n i : Nat) (s : State) :
    (s.renderLoop mixes n i).wmask = s.wmask :=
  State.renderLoop_keeps State.wmask (fun _ _ => rfl) mixes n i s
@[simp] theorem State.renderLoop_hcount (mixes : Nat → Val) (n i : Nat) (s : State) :
    (s.renderLoop mixes n i).hcount = s.hcount :=
  State.renderLoop_keeps State.hcount (fun _ _ => rfl) mixes n i s
@[simp] theorem State.renderLoop_hoffset (mixes : Nat → Val) (n i : Nat) (s : State) :
    (s.renderLoop mixes n i).hoffset = s.hoffset :=
  State.renderLoop_keeps State.hoffset (fun _ _ => rfl) mixes n i s
@[simp] theorem State.renderLoop_hvel (mixes : Nat → Val) (n i : Nat) (s : State) :
    (s.renderLoop mixes n i).hvel = s.hvel :=
  State.renderLoop_keeps State.hvel (fun _ _ => rfl) mixes n i s
@[simp] theorem State.renderLoop_duty (mixes : Nat → Val) (n i : Nat) (s : State) :
    (s.renderLoop mixes n i).duty = s.duty :=
  State.renderLoop_keeps State.duty (fun _ _ => rfl) mixes n i s
@[simp] theorem State.renderLoop_doff (mixes : Nat → Val) (n i : Nat) (s : State) :
    (s.renderLoop mixes n i).doff = s.doff :=
  State.renderLoop_keeps State.doff (fun _ _ => rfl) mixes n i s
@[simp] theorem State.renderLoop_drate (mixes : Nat → Val) (n i : Nat) (s : State) :
    (s.renderLoop mixes n i).drate = s.drate :=
  State.renderLoop_keeps State.drate (fun _ _ => rfl) mixes n i s
@[simp] theorem State.renderLoop_vdepth (mixes : Nat → Val) (n i : Nat) (s : State) :
    (s.renderLoop mixes n i).vdepth = s.vdepth :=
  State.renderLoop_keeps State.vdepth (fun _ _ => rfl) mixes n i s
@[simp] theorem State.renderLoop_vrate (mixes : Nat → Val) (n i : Nat) (s : State) :
    (s.renderLoop mixes n i).vrate = s.vrate :=
  State.renderLoop_keeps State.vrate (fun _ _ => rfl) mixes n i s
@[simp] theorem State.renderLoop_fshift (mixes : Nat → Val) (n i : Nat) (s : State) :
    (s.renderLoop mixes n i).fshift = s.fshift :=
  State.renderLoop_keeps State.fshift (fun _ _ => rfl) mixes n i s
@[simp] theorem State.renderLoop_attack (mixes : Nat → Val) (n i : Nat) (s : State) :
    (s.renderLoop mixes n i).attack = s.attack :=
  State.renderLoop_keeps State.attack (fun _ _ => rfl) mixes n i s
@[simp] theorem State.renderLoop_release (mixes : Nat → Val) (n i : Nat) (s : State) :
    (s.renderLoop mixes n i).release = s.release :=
  State.renderLoop_keeps State.release (fun _ _ => rfl) mixes n i s
@[simp] theorem State.renderLoop_envStart (mixes : Nat → Val) (n i : Nat) (s : State) :
    (s.renderLoop mixes n i).envStart = s.envStart :=
  State.renderLoop_keeps State.envStart (fun _ _ => rfl) mixes n i s
@[simp] theorem State.renderLoop_running (mixes : Nat → Val) (n i : Nat) (s : State) :
    (s.renderLoop mixes n i).running = s.running :=
  State.renderLoop_keeps State.running (fun _ _ => rfl) mixes n i s
@[simp] theorem State.renderLoop_renderQ (mixes : Nat → Val) (n i : Nat) (s : State) :
    (s.renderLoop mixes n i).renderQ = s.renderQ :=
  State.renderLoop_keeps State.renderQ (fun _ _ => rfl) mixes n i s
@[simp] theorem State.renderLoop_controlQ (mixes : Nat → Val) (n i : Nat) (s : State) :
    (s.renderLoop mixes n i).controlQ = s.controlQ :=
  State.renderLoop_keeps State.controlQ (fun _ _ => rfl) mixes n i s
@[simp] theorem State.renderLoop_lifecycle (mixes : Nat → Val) (n i : Nat) (s : State) :
    (s.renderLoop mixes n i).lifecycle = s.lifecycle :=
  State.renderLoop_keeps State.lifecycle (fun _ _ => rfl) mixes n i s
@[simp] theorem State.renderLoop_arbSeq (mixes : Nat → Val) (n i : Nat) (s : State) :
    (s.renderLoop mixes n i).arbSeq = s.arbSeq :=
  State.renderLoop_keeps State.arbSeq (fun _ _ => rfl) mixes n i s

end Sys2Proof.Machine
end

