-- ==== Sys2Proof/Laws/Port.lean ====
section
/-! SUPPORT. All the arbiter can select, and all one step can be (R75, R76, R113, R260, R265). -/

namespace Sys2Proof.Machine

/-- The word a step takes, from whom, and what is left of the inputs (R76). -/
inductive Taken (s : State) : HostId → Word48 → State → Prop where
  | renderOnly {w q} : s.renderQ = w :: q → s.controlQ = [] → Taken s .render w (s.takeRender q)
  | controlOnly {w q} : s.controlQ = w :: q → s.renderQ = [] → Taken s .control w (s.takeControl q)
  | renderFirst {w q} : s.renderQ = w :: q → s.controlQ ≠ [] → Taken s .render w (s.takeRender q).countChoice
  | controlFirst {w q} : s.controlQ = w :: q → s.renderQ ≠ [] → Taken s .control w (s.takeControl q).countChoice

/-- All `select` can answer. -/
theorem State.select_cases (s : State) :
    (∃ h w rest, s.running = true ∧ Taken s h w rest ∧ s.select = .word h w rest) ∨
    (∃ e es, s.lifecycle = e :: es ∧ (s.running = true → s.renderQ = [] ∧ s.controlQ = []) ∧
      s.select = .event e { s with lifecycle := es }) ∨
    (s.lifecycle = [] ∧ s.running = true ∧ s.renderQ = [] ∧ s.controlQ = [] ∧ s.select = .idle) ∨
    (s.lifecycle = [] ∧ s.running = false ∧ s.select = .stopped) := by
  unfold State.select
  split
  · next hrun =>
    split
    · next hr hc =>
      unfold State.selectEvent
      split
      · next hl => exact .inr (.inr (.inl ⟨hl, hrun, hr, hc, rfl⟩))
      · next e es hl => exact .inr (.inl ⟨e, es, hl, fun _ => ⟨hr, hc⟩, rfl⟩)
    · next r rs hr hc => exact .inl ⟨_, _, _, hrun, .renderOnly hr hc, rfl⟩
    · next c cs hr hc => exact .inl ⟨_, _, _, hrun, .controlOnly hc hr, rfl⟩
    · next r rs c cs hr hc =>
      split
      · exact .inl ⟨_, _, _, hrun, .renderFirst hr (by simp [hc]), rfl⟩
      · exact .inl ⟨_, _, _, hrun, .controlFirst hc (by simp [hr]), rfl⟩
  · next hrun =>
    have hrun : s.running = false := by simpa using hrun
    unfold State.selectEvent
    split
    · next hl => exact .inr (.inr (.inr ⟨hl, hrun, rfl⟩))
    · next e es hl => exact .inr (.inl ⟨e, es, hl, by simp [hrun], rfl⟩)

/-- All one step can be: an accepted word, an event, a wait, or the refusal of a block that is shut down. -/
theorem step_cases (s : State) :
    (∃ h w rest, s.running = true ∧ Taken s h w rest ∧ step s = acceptWord w rest) ∨
    (∃ e es, s.lifecycle = e :: es ∧ step s = State.applyEvent e { s with lifecycle := es }) ∨
    (step s = .next s) ∨
    (s.running = false ∧ s.lifecycle = [] ∧ step s = .refused .notRunning) := by
  rcases s.select_cases with ⟨h, w, rest, hrun, ht, hs⟩ | ⟨e, es, hl, -, hs⟩ | ⟨-, -, -, -, hs⟩ | ⟨hl, hrun, hs⟩
  · exact .inl ⟨h, w, rest, hrun, ht, by simp [step, hs, carryOut]⟩
  · exact .inr (.inl ⟨e, es, hl, by simp [step, hs, carryOut]⟩)
  · exact .inr (.inr (.inl (by simp [step, hs, carryOut])))
  · exact .inr (.inr (.inr ⟨hrun, hl, by simp [step, hs, carryOut]⟩))

/-- Taking a word changes the inputs of the step and no register (R75). -/
theorem Taken.frame {s rest : State} {h : HostId} {w : Word48} (ht : Taken s h w rest) :
    rest = { s with renderQ := rest.renderQ, controlQ := rest.controlQ, arbSeq := rest.arbSeq } := by
  cases ht <;> rfl

theorem acceptWord_of_ok {w : Word48} {i : Instr} (h : decode w = .ok i) (s : State) : acceptWord w s = exec i s := by
  simp [acceptWord, h]

theorem acceptWord_of_error {w : Word48} {e : Illegal} (h : decode w = .error e) (s : State) : acceptWord w s = .next s := by
  simp [acceptWord, h]

end Sys2Proof.Machine
end

