-- ==== Sys2Proof/Laws/Render.lean ====
section
/-! SUPPORT. What RENDER's parts can do: how the loop splits, what it appends, where the cursor goes, and when the command
answers a next state. -/

namespace Sys2Proof.Machine

/-- Where RENDER reads and writes inside `RB` and `hamp` (R43, R66): under these two bounds it never stops. -/
theorem execRender_next {s : State} (len : Arg) (hc : s.cursor < s.rlen) (hh : s.hcount ≤ Config.hmax) :
    execRender len s = .next (s.render (formLen len)) := by
  unfold execRender
  split
  · next h => rw [h]; rfl
  · rw [if_neg (by omega), if_neg (by omega)]

/-- All RENDER can answer. -/
theorem execRender_cases (len : Arg) (s : State) :
    execRender len s = .next (s.render (formLen len)) ∨
    (s.rlen ≤ s.cursor ∧ execRender len s = .fault .reverbIndex) ∨
    (Config.hmax < s.hcount ∧ execRender len s = .fault .harmonicIndex) := by
  unfold execRender
  split
  · next h => left; rw [h]; rfl
  · split
    · next h => exact .inr (.inl ⟨h, rfl⟩)
    · split
      · next h => exact .inr (.inr ⟨h, rfl⟩)
      · exact .inl rfl

/-- A RENDER that answers a next state answers `State.render`'s. -/
theorem execRender_eq_next {len : Arg} {s t : State} (h : execRender len s = .next t) : t = s.render (formLen len) := by
  rcases execRender_cases len s with h' | ⟨-, h'⟩ | ⟨-, h'⟩ <;> rw [h'] at h <;> cases h
  rfl

@[simp] theorem State.renderLoop_zero (mixes : Nat → Val) (i : Nat) (s : State) : s.renderLoop mixes 0 i = s := rfl

theorem State.renderLoop_succ (mixes : Nat → Val) (n i : Nat) (s : State) :
    s.renderLoop mixes (n + 1) i = (s.renderSample (mixes i)).renderLoop mixes n (i + 1) := rfl

/-- A loop of `a + b` samples is a loop of `a` and then one of `b`. -/
theorem State.renderLoop_add (mixes : Nat → Val) (a b i : Nat) (s : State) :
    s.renderLoop mixes (a + b) i = (s.renderLoop mixes a i).renderLoop mixes b (i + a) := by
  induction a generalizing i s with
  | zero => simp
  | succ a ih =>
    rw [Nat.succ_add, State.renderLoop_succ, ih, State.renderLoop_succ]
    congr 1
    omega

/-- Only the dry mixes of the indexes the loop runs over matter. -/
theorem State.renderLoop_congr {f g : Nat → Val} (n i j : Nat) (s : State) (h : ∀ k < n, f (i + k) = g (j + k)) :
    s.renderLoop f n i = s.renderLoop g n j := by
  induction n generalizing i j s with
  | zero => rfl
  | succ n ih =>
    have h0 : f i = g j := by simpa using h 0 (by omega)
    rw [State.renderLoop_succ, State.renderLoop_succ, h0]
    refine ih (i + 1) (j + 1) _ fun k hk => ?_
    have := h (k + 1) (by omega)
    rw [show i + 1 + k = i + (k + 1) by omega, show j + 1 + k = j + (k + 1) by omega]
    exact this

/-- The loop changes the sample port, `RB` and `CURSOR` and nothing else (R160). -/
theorem State.renderLoop_frame (mixes : Nat → Val) (n i : Nat) (s : State) :
    s.renderLoop mixes n i =
      { s with
        out := (s.renderLoop mixes n i).out
        rb := (s.renderLoop mixes n i).rb
        cursor := (s.renderLoop mixes n i).cursor } := by
  induction n generalizing i s with
  | zero => rfl
  | succ n ih =>
    rw [State.renderLoop_succ, ih]
    rfl

@[simp] theorem State.renderLoop_rlen (mixes : Nat → Val) (n i : Nat) (s : State) :
    (s.renderLoop mixes n i).rlen = s.rlen := by
  simp [State.rlen]

@[simp] theorem State.renderSample_rlen (m : Val) (s : State) : (s.renderSample m).rlen = s.rlen := rfl

end Sys2Proof.Machine
end

