-- ==== Sys2Proof/Tests/Slice0.lean ====
section
/-! SUPPORT. Tests, with expected values from the rules' examples and spec/95_test_vectors.md, and one witness for each
statement that has hypotheses. -/

-- Each theorem below is checked before the next is read, which keeps the number of threads small.
set_option Elab.async false

namespace Sys2Proof.Tests

open Sys2Proof.Machine

/-! ## Well-formedness: an ill-formed term for each check (R112) -/

theorem test_setfreq_channel_five_ill_formed : (Instr.setfreq 5#8 0#32).wellFormed = false := by decide
theorem test_seten_channel_five_ill_formed : (Instr.seten 5#8 true).wellFormed = false := by decide
theorem test_setch0_channel_five_ill_formed : (Instr.setch0 5#8 0#32).wellFormed = false := by decide
theorem test_setch1_channel_255_ill_formed : (Instr.setch1 255#8 0#32).wellFormed = false := by decide
theorem test_setfreq_channel_four_well_formed : (Instr.setfreq 4#8 0#32).wellFormed = true := by decide

/-! ## Decoding: a word written out field by field (R101, R107) for each constructor -/

theorem test_decode_render : decode (0b00000001#8 ++ 0b00000000#8 ++ 0xFFFFFFFF#32) = .ok (.render 0xFFFFFFFF#32) := by decide
theorem test_decode_tick : decode (0b00000010#8 ++ 0b00000000#8 ++ 0x80000001#32) = .ok (.tick 0x80000001#32) := by decide
theorem test_decode_noteon : decode (0b00000011#8 ++ 0b00000000#8 ++ 0xFFFFF000#32) = .ok (.noteon 0xFFFFF000#32) := by decide
theorem test_decode_setfreq : decode (0b00010000#8 ++ 0b00000100#8 ++ 0x01B80000#32) = .ok (.setfreq 4#8 0x01B80000#32) := by decide
theorem test_decode_seten : decode (0b00010001#8 ++ 0b00000000#8 ++ 0b1#32) = .ok (.seten 0#8 true) := by decide
theorem test_decode_setch0 : decode (0b00010010#8 ++ 0b00000100#8 ++ 0x00DC8000#32) = .ok (.setch0 4#8 0x00DC8000#32) := by decide
theorem test_decode_setch1 : decode (0b00010011#8 ++ 0b00000100#8 ++ 0xFFFD0000#32) = .ok (.setch1 4#8 0xFFFD0000#32) := by decide
theorem test_decode_setmask : decode (0b00100000#8 ++ 0b00000000#8 ++ 0b1010#32) = .ok (.setmask 0b1010#4) := by decide
theorem test_decode_sethcnt : decode (0b00100001#8 ++ 0b00000000#8 ++ 0x80000000#32) = .ok (.sethcnt 0x80000000#32) := by decide
theorem test_decode_sethvel : decode (0b00100010#8 ++ 0b00000000#8 ++ 0xFFFF8000#32) = .ok (.sethvel 0xFFFF8000#32) := by decide
theorem test_decode_setdoff : decode (0b00100011#8 ++ 0b00000000#8 ++ 0x00010001#32) = .ok (.setdoff 0x00010001#32) := by decide
theorem test_decode_setdrate : decode (0b00100100#8 ++ 0b00000000#8 ++ 0xFFFF0000#32) = .ok (.setdrate 0xFFFF0000#32) := by decide
theorem test_decode_setvdep : decode (0b00100101#8 ++ 0b00000000#8 ++ 0xFFFB0000#32) = .ok (.setvdep 0xFFFB0000#32) := by decide
theorem test_decode_setvrate : decode (0b00100110#8 ++ 0b00000000#8 ++ 0x00020000#32) = .ok (.setvrate 0x00020000#32) := by decide
theorem test_decode_setatk : decode (0b00100111#8 ++ 0b00000000#8 ++ 0x00008000#32) = .ok (.setatk 0x00008000#32) := by decide
theorem test_decode_setrel : decode (0b00101000#8 ++ 0b00000000#8 ++ 0x40000000#32) = .ok (.setrel 0x40000000#32) := by decide

/-- The illegal words of V-ILL, each by the condition it fails. -/
theorem test_decode_illegal_words :
    decode 0x040000000000#48 = .error (.reservedOpcode 0x04#8) ∧ decode 0x140000000000#48 = .error (.reservedOpcode 0x14#8) ∧
    decode 0x290000000000#48 = .error (.reservedOpcode 0x29#8) ∧ decode 0xFF0000000000#48 = .error (.reservedOpcode 0xFF#8) ∧
    decode 0x100500000000#48 = .error (.channelOutOfRange 5#8) ∧ decode 0x10FF01B80000#48 = .error (.channelOutOfRange 255#8) ∧
    decode 0x010100000004#48 = .error (.selNotZero 1#8) ∧ decode 0x210100000003#48 = .error (.selNotZero 1#8) ∧
    decode 0x110000000002#48 = .error (.reservedArgBits 2#32) ∧ decode 0x200000000010#48 = .error (.reservedArgBits 16#32) := by
  decide

/-- R65: the word of `SETCH1 0, 5` (R116) as bytes, most significant first, with one byte behind it. -/
theorem test_decode_bytes :
    decodeBytes [0x13#8, 0x00#8, 0x00#8, 0x05#8, 0x00#8, 0x00#8, 0xAA#8] = .ok (.setch1 0#8 0x00050000#32, [0xAA#8]) := by
  decide

/-- A table row's match, read as the table numbers its bits. -/
theorem test_decode_table_words :
    decodeTableWord 48 0x010000000000 = some (.render 0#32) ∧ decodeTableWord 48 0x130000000000 = some (.setch1 0#8 0#32) ∧
    decodeTableWord 48 0x200000000000 = some (.setmask 0#4) ∧ decodeTableWord 48 0x280000000000 = some (.setrel 0#32) ∧
    decodeTableWord 48 0 = none := by
  decide

theorem test_assembler_operands :
    asmQ 440 = some 0x01B80000#32 ∧ asmQ (-5 / 4) = some 0xFFFEC000#32 ∧ asmQ (1 / 3) = none ∧ asmQ 32768 = none ∧
    asmSeconds (65 / 4) = some 0x00104000#32 := by
  decide +kernel

/-- The spellings of R116, and 95_test_vectors.md V-S8's count of -7. -/
theorem test_assembler_lines :
    assembleLine "  SETFREQ 2, 440 ; root" = some [0x100201B80000#48] ∧ assembleLine "SETDOFF 0.5" = some [0x230000008000#48] ∧
    assembleLine "SETHCNT -7" = some [0x2100FFFFFFF9#48] ∧ assembleLine "SETMASK 0b10000" = none ∧
    assembleLine "SETFREQ 0, 32768" = none ∧ assembleLine "; nothing" = some [] := by
  decide +kernel

/-! ## Datapath: worked values of 40_datapath_functions.md and V-LUT to V-WH -/

theorem test_frac : frac (-1 / 8) = 7 / 8 ∧ frac (-1) = 0 ∧ frac (5 / 4) = 1 / 4 := by decide +kernel
theorem test_index : index (2047 / 2048) 1024 = 1023 ∧ index (-1 / 8) 1024 = 896 ∧ index (1 / 3) 1024 = 341 := by
  decide +kernel
theorem test_sin_rom : sinRom 255 = 65535 / 65536 ∧ sinRom 341 = 56823 / 65536 ∧ sinRom 513 = -402 / 65536 ∧
    sinRom 896 = -46341 / 65536 ∧ sinRom 1023 = -402 / 65536 := by decide +kernel
theorem test_cos_rom : cosRom 29 = 49624 / 65536 ∧ cosRom 81 = -26558 / 65536 ∧ cosRom 215 = 35062 / 65536 := by decide +kernel
theorem test_cos_lookup : cosR 1 = 36410 / 65536 ∧ cosR (-1) = 35062 / 65536 ∧ cosR (355 / 113) = -1 := by decide +kernel
theorem test_square : genSquare (1 / 2) (1 / 2) = -1 ∧ genSquare (1 / 4) (1 / 2) = 1 ∧ genSquare (1 / 10) (1 / 10) = -1 := by
  decide +kernel
theorem test_saw : genSaw (-1 / 4) = 1 / 2 ∧ genSaw (9 / 10) = 4 / 5 := by decide +kernel
theorem test_tri : genTri (1 / 10) = -3 / 5 ∧ genTri (1 / 2) = 1 ∧ genTri (3 / 4) = 0 := by decide +kernel
theorem test_wave : wave (1 / 8) 0b1111#4 (1 / 2) = 141593 / 327680 ∧ wave (5 / 8) 0b1010#4 (1 / 2) = 1 / 20 := by
  decide +kernel
theorem test_hamp : hampOf (1 / 2) = [65536, 4821, -64827, -14359, 62714, 23586, -59244, -32303].map (· / 65536) := by
  decide +kernel
theorem test_wave_harmonics :
    waveHarmonics (1 / 8) 0b0001#4 (1 / 2) 8 (hampOf 0) = 8172709420143 / 8796093022208 ∧
    waveHarmonics (1 / 16) 0b1111#4 (1 / 2) 4 (hampOf 0) = -94395139613 / 171798691840 := by
  decide +kernel

/-! ## One command on a small state -/

/-- One view of the state a command leaves; `none` where it stops. -/
def after {α : Type} (i : Instr) (s : State) (view : State → α) : Option α :=
  match exec i s with
  | .next t => some (view t)
  | .fault _ => none
  | .refused _ => none

/-- `SR` = 40, `VOLUME` = 1, one voice of frequency `f` at phase `p`, mask `m` (R174, P1, P2). -/
def oneVoice (f p : Val) (m : BitVec 4) : State :=
  { State.init 40 with
    volume := 1
    wmask := m
    channels := #v[⟨f, true, p⟩, ⟨0, false, 0⟩, ⟨0, false, 0⟩, ⟨0, false, 0⟩, ⟨0, false, 0⟩] }

/-- R174. -/
theorem test_render_sine :
    after (.render 3#32) (oneVoice 5 0 0b0001#4) (fun t => (t.out, t.rb, t.cursor, t.channels[0].pp)) =
      some ([0, 46341 / 65536, 1], [(1, 46341 / 65536), (2, 1)], 3, 3 / 8) := by
  decide +kernel

/-- P2, command 18: the cursor wraps, the echo of the first sample comes back at half, the phase goes on from 1/2. -/
theorem test_render_echo :
    after (.render 2#32) { oneVoice 8 (1 / 2) 0b0100#4 with cursor := 7, rb := [(0, -3 / 10), (1, -6 / 25)] }
      (fun t => (t.out, t.rb, t.cursor, t.channels[0].pp)) =
      some ([0, -3 / 100], [(0, 3 / 25), (1, -6 / 25)], 1, 9 / 10) := by
  decide +kernel

/-- V-VIB, V-DUTY, V-DRIFT at `now` = 0x2000. -/
theorem test_tick_modulation :
    after (.tick 0x2000#32) { State.init 40 with vdepth := 3, vrate := 2, drate := 1 / 2, doff := 1 / 4, hvel := 1 / 8 }
      (fun t => (t.fshift, t.duty, t.hoffset)) = some (3, 2675 / 4096, 1 / 8) := by
  decide +kernel

/-- V-ENV, the stamp wrap. -/
theorem test_tick_stamp_wrap :
    after (.tick 0x1000#32) { State.init 40 with attack := 1 / 2, release := 2, envStart := 0xFFFFF000#32 } State.volume =
      some (1 / 4) := by
  decide +kernel

/-- V-ENV: release, and the zero-length release. -/
theorem test_envelope_corners :
    envelopeAt (1 / 2) 2 1 = 3 / 4 ∧ envelopeAt (1 / 2) 2 3 = 0 ∧ envelopeAt (1 / 2) 2 (1 / 2) = 1 ∧ envelopeAt 0 0 0 = 0 ∧
    envelopeAt 0 1 0 = 1 ∧ envelopeAt 1 0 1 = 0 := by
  decide +kernel

theorem test_noteon : after (.noteon 0x00100000#32) (State.init 40) (fun t => (t.envStart, t.volume)) = some (0x00100000#32, 0) := by
  decide +kernel

/-- V-SET. -/
theorem test_setfreq : after (.setfreq 2#8 0x01B80000#32) (State.init 40) (fun t => (t.channels[2].freq, t.channels[1].freq)) =
    some (440, 0) := by decide +kernel
theorem test_setfreq_negative : after (.setfreq 2#8 0xFFFF0000#32) (oneVoice 5 0 1#4) (fun t => t.channels[2].freq) = some 0 := by
  decide +kernel
theorem test_seten : after (.seten 3#8 false) (State.init 40) (fun t => (t.channels[3].en, t.channels[2].en)) =
    some (false, true) := by decide +kernel
theorem test_setch0 : after (.setch0 4#8 0x00DC8000#32) (State.init 40) (fun t => t.channels[4]) = some ⟨441 / 2, false, 0⟩ := by
  decide +kernel
theorem test_setch1 : after (.setch1 4#8 0xFFFD0000#32) (oneVoice 5 0 1#4) (fun t => t.channels[4]) = some ⟨0, true, 0⟩ := by
  decide +kernel
theorem test_setmask : after (.setmask 0b1010#4) (State.init 40) State.wmask = some 10#4 := by decide +kernel
theorem test_sethcnt_above : after (.sethcnt 9#32) (State.init 40) State.hcount = some 8 := by decide +kernel
theorem test_sethcnt_negative : after (.sethcnt 0xFFFFFFFF#32) (State.init 40) State.hcount = some 1 := by decide +kernel
theorem test_sethvel : after (.sethvel 0xFFFF8000#32) (State.init 40) State.hvel = some (-1 / 2) := by decide +kernel
theorem test_setdoff_above : after (.setdoff 0x00010001#32) (State.init 40) State.doff = some 1 := by decide +kernel
theorem test_setdoff_negative : after (.setdoff 0x80000000#32) (State.init 40) State.doff = some 0 := by decide +kernel
theorem test_setdrate : after (.setdrate 0xFFFF0000#32) (State.init 40) State.drate = some (-1) := by decide +kernel
theorem test_setvdep : after (.setvdep 0xFFFB0000#32) (State.init 40) State.vdepth = some (-5) := by decide +kernel
theorem test_setvrate : after (.setvrate 0x00020000#32) (State.init 40) State.vrate = some 2 := by decide +kernel
theorem test_setatk : after (.setatk 0xFFFF8000#32) (State.init 40) State.attack = some 0 := by decide +kernel
theorem test_setrel : after (.setrel 0x00018000#32) (State.init 40) State.release = some (3 / 2) := by decide +kernel

/-! ## One step -/

/-- The first step after reset runs the word placed for it. -/
theorem test_step_from_reset :
    (match step (State.reset.withFetchWord 48 0x130000050000) with
      | .next t => some (t.channels[0].freq, t.controlQ)
      | _ => none) = some (5, []) := by
  decide +kernel

/-- V-ILL: an illegal word is taken and does nothing. -/
theorem test_step_illegal_word : step ((State.init 40).present .render 0x100500000000#48) = .next (State.init 40) := by rfl

/-! ## Witnesses -/

/-- A state that meets the invariant, with a filled buffer, as RENDER's statements ask. -/
def busy : State := { oneVoice 8 (1 / 2) 0b0100#4 with cursor := 7, rb := [(0, -3 / 10), (7, 1 / 5)], hcount := 8 }

theorem busy_inv : Inv busy where
  sr_ge := by decide
  channels := by
    intro c hc
    have hc : c ∈ [(⟨8, true, 1 / 2⟩ : Channel), ⟨0, false, 0⟩, ⟨0, false, 0⟩, ⟨0, false, 0⟩, ⟨0, false, 0⟩] := hc
    have h : c = ⟨8, true, 1 / 2⟩ ∨ c = ⟨0, false, 0⟩ := by simpa using hc
    rcases h with rfl | rfl <;> constructor <;> decide +kernel
  volume := by constructor <;> decide +kernel
  hcount_pos := by decide
  hcount_le := by decide
  duty := by constructor <;> decide +kernel
  doff := by constructor <;> decide +kernel
  attack := by decide +kernel
  release := by decide +kernel
  cursor := by decide
  rb := ⟨by decide +kernel, by decide +kernel⟩

/-- RenderEmitsMixPlusHalfTheEcho, RenderLeavesPhasesBufferAndCursor, DisabledChannelKeepsItsPhase (with channel 0 and 4),
ZeroFrequencyIsAConstant's premises, DryMixIsTheSumOverEnabledChannels. -/
theorem witness_render_premises : busy.cursor < busy.rlen ∧ busy.hcount ≤ 8 ∧ Memory.wf busy.rb ∧ (4#8 : Sel).toNat < 5 := by
  decide +kernel

/-- The cursor at both ends of `RB`. -/
theorem witness_render_cursor_zero : (oneVoice 5 0 1#4).cursor < (oneVoice 5 0 1#4).rlen := by decide

/-- ZeroFrequencyIsAConstant: an enabled channel at effective frequency 0 (by a vibrato of -8 Hz) with a phase above 0. -/
theorem witness_zero_frequency_enabled :
    let s := { busy with fshift := -8 }
    s.cursor < s.rlen ∧ s.hcount ≤ 8 ∧ s.channels[0].en = true ∧ s.channels[0].freq + s.fshift = 0 ∧
      0 ≤ s.channels[0].pp ∧ s.channels[0].pp < 1 := by
  decide +kernel

/-- ZeroFrequencyIsAConstant: the channel of the rule's example, whose constant is -9/10. -/
theorem witness_zero_frequency_example :
    let s := oneVoice 0 0 0b1100#4
    s.cursor < s.rlen ∧ s.channels[0].en = true ∧ s.channels[0].freq + s.fshift = 0 ∧ s.channels[0].pp = 0 ∧
      s.wmask = 0b1100#4 ∧ s.hcount = 1 := by
  decide +kernel

/-- ZeroFrequencyIsAConstant: an enabled channel at a negative effective frequency. -/
theorem witness_negative_frequency :
    let s := { busy with fshift := -9 }
    s.cursor < s.rlen ∧ s.hcount ≤ 8 ∧ s.channels[0].en = true ∧ s.channels[0].freq + s.fshift < 0 := by
  decide +kernel

/-- ZeroFrequencyIsAConstant: a disabled channel at effective frequency 0 with a phase in [0, 1). -/
theorem witness_zero_frequency :
    busy.channels[1].en = false ∧ busy.channels[1].freq + busy.fshift = 0 ∧ 0 ≤ busy.channels[1].pp ∧ busy.channels[1].pp < 1 := by decide +kernel

/-- ZeroFrequencyIsAConstant: an enabled channel. DisabledChannelKeepsItsPhase: a disabled one. -/
theorem witness_enabled_and_disabled : busy.channels[0].en = true ∧ busy.channels[1].en = false := by decide

/-- TwoRendersAreOneLongRender: two lengths at the bound of their sum, and a RENDER that completes. -/
theorem witness_two_renders :
    (0xFFFFFFFE#32 : Arg).toNat + (1#32 : Arg).toNat < 4294967296 ∧
    ∃ t, exec (.render 1#32) busy = .next t ∧ (1#32 : Arg).toNat + (2#32 : Arg).toNat < 4294967296 :=
  ⟨by decide, _, rfl, by decide⟩

/-- RenderStopsOutsideItsMemories: a state for each stop, at the boundary. -/
theorem witness_render_stops :
    (1#32 : Arg) ≠ 0#32 ∧ ({ busy with cursor := 8 } : State).rlen ≤ ({ busy with cursor := 8 } : State).cursor ∧
    ({ busy with hcount := 9 } : State).cursor < ({ busy with hcount := 9 } : State).rlen ∧
    8 < ({ busy with hcount := 9 } : State).hcount := by decide

/-- RenderOfLengthZeroChangesNothing, EveryWordHasAnEffect, EveryIssuedWordIsAccepted. -/
theorem witness_invariant_running : Inv busy ∧ busy.running = true := ⟨busy_inv, rfl⟩

/-- EveryStepKeepsTheInvariant: a step that answers a next state. -/
theorem witness_invariant_step : Inv busy ∧ ∃ t, step busy = .next t := ⟨busy_inv, _, rfl⟩

theorem onGrid_int_div (z : Int) : OnGrid ((z : Val) / 65536) := ⟨z, rfl⟩

theorem inQ_zero : InQ 0 := ⟨⟨0, by decide +kernel⟩, by decide +kernel, by decide +kernel⟩

/-- EveryStepKeepsTheValueSets: a state in the value sets whose step answers a next state. -/
theorem witness_value_sets : ValueSets (State.init 40) ∧ ∃ t, step (State.init 40) = .next t := by
  refine ⟨⟨?_, inQ_zero.1, inQ_zero, ⟨inQ_zero.1, ?_, ?_⟩, inQ_zero, inQ_zero, inQ_zero, ⟨⟨0, ?_⟩, ?_, ?_⟩,
    ⟨inQ_zero, ?_⟩, ⟨inQ_zero, ?_⟩⟩, _, rfl⟩
  · intro c hc
    have h : c = Channel.reset := by simpa [State.init] using hc
    subst h
    exact ⟨inQ_zero, by decide +kernel⟩
  all_goals decide +kernel

/-- InvariantHoldsAtReset, RenderAfterResetEmitsZeros: the least rate. -/
theorem witness_least_rate : 5 ≤ 5 := by decide

/-- EncodedCommandDecodesToItself, at the last channel. -/
theorem witness_well_formed : (Instr.setch1 4#8 0xFFFFFFFF#32).wellFormed = true := by decide

/-- DecodedWordIsItsEncoding. -/
theorem witness_decoded : decode 0x1304FFFFFFFF#48 = .ok (.setch1 4#8 0xFFFFFFFF#32) := by decide

/-- SerialWordIsSixBytesMostSignificantFirst: five bytes. -/
theorem witness_short_stream : ([0#8, 0#8, 0#8, 0#8, 0#8] : List Byte).length < 6 := by decide

/-- The channel setters' statements, at the first and the last channel; NoSuchChannelChangesNothing, at the first that is none. -/
theorem witness_channels : (0#8 : Sel).toNat < 5 ∧ (4#8 : Sel).toNat < 5 ∧ 5 ≤ (5#8 : Sel).toNat := by decide

/-- StepRunsTheAcceptedCommand: words of the render host alone, of the control host alone, of both, and a placed one. -/
theorem witness_step_runs :
    decode 0x010000000003#48 = .ok (.render 3#32) ∧ decode 0x200000000001#48 = .ok (.setmask 1#4) ∧
    (busy.present .render 0x010000000003#48).renderQ = [0x010000000003#48] ∧
    (busy.present .render 0x010000000003#48).controlQ = [] ∧
    (busy.present .control 0x010000000003#48).controlQ = [0x010000000003#48] ∧
    (busy.present .control 0x010000000003#48).renderQ = [] ∧
    ((busy.present .render 0x010000000003#48).present .control 0x200000000001#48).renderQ = [0x010000000003#48] ∧
    ((busy.present .render 0x010000000003#48).present .control 0x200000000001#48).controlQ = [0x200000000001#48] ∧
    ((busy.present .render 0x010000000003#48).present .control 0x200000000001#48).running = true ∧
    tableWord 48 0x010000000003 = 0x010000000003#48 := by decide

/-- IllegalWordIsAcceptedAndDoesNothing. -/
theorem witness_illegal_pending :
    decode 0x100500000000#48 = .error (.channelOutOfRange 5#8) ∧
    (busy.present .render 0x100500000000#48).renderQ = [0x100500000000#48] ∧
    (busy.present .render 0x100500000000#48).controlQ = [] ∧
    (busy.present .control 0x100500000000#48).controlQ = [0x100500000000#48] ∧
    (busy.present .control 0x100500000000#48).renderQ = [] := by decide

/-- SendingHostIsInvisible, IdleBlockWaitsAndStoppedBlockRefuses (running). -/
theorem witness_idle : busy.running = true ∧ busy.renderQ = [] ∧ busy.controlQ = [] ∧ busy.lifecycle = [] := by decide

/-- IdleBlockWaitsAndStoppedBlockRefuses (shut down). -/
theorem witness_stopped : ({ busy with running := false } : State).running = false ∧ busy.lifecycle = [] := by decide

/-- ShutdownEndsTheRun: with no word pending, and with one. -/
theorem witness_shutdown :
    (busy.request .shutdown).running = true ∧ (busy.request .shutdown).lifecycle = [.shutdown] ∧
    (busy.request .shutdown).renderQ = [] ∧ (busy.request .shutdown).controlQ = [] ∧
    ((busy.request .shutdown).present .render 0#48).renderQ ≠ [] ∧
    ((busy.request .shutdown).present .render 0#48).lifecycle = [.shutdown] := by decide

/-- InitIsAFreshReset: a legal rate at the boundary and one below it, from a running and from a stopped block. -/
theorem witness_init :
    (busy.request (.init 5 0)).lifecycle = [.init 5 0] ∧ (busy.request (.init 5 0)).renderQ = [] ∧
    (busy.request (.init 5 0)).controlQ = [] ∧ 5 ≤ 5 ∧
    (({ busy with running := false } : State).request (.init 4 512)).lifecycle = [.init 4 512] ∧
    (({ busy with running := false } : State).request (.init 4 512)).running = false ∧ 4 < 5 := by decide

/-- SettersAreIdempotent and RegistersWithoutASetterHaveOneWriter (a command of each premise). -/
theorem witness_setter :
    (∀ len, Instr.setmask 1#4 ≠ .render len) ∧ (∀ now, Instr.setmask 1#4 ≠ .tick now) ∧
    (∀ now, Instr.setmask 1#4 ≠ .noteon now) ∧ ∃ t, exec (.setmask 1#4) busy = .next t :=
  ⟨by simp, by simp, by simp, _, rfl⟩

/-- ControlSettersWaitForTheNextTick. -/
theorem witness_control_setter :
    actsAtTick (.setatk 0#32) = true ∧ (∃ t, exec (.setatk 0#32) busy = .next t) ∧ ∃ u, exec (.render 2#32) busy = .next u :=
  ⟨rfl, ⟨_, rfl⟩, _, rfl⟩

/-- EnvelopeHasThreeBranches: an elapsed time in each branch and at each boundary (`ATTACK` 1/2, `RELEASE` 2, V-ENV). -/
theorem witness_envelope_branches :
    let s : State := { State.init 40 with attack := 1 / 2, release := 2, envStart := 0x00010000#32 }
    s.elapsed 0x00017FFF#32 < s.attack ∧ s.attack ≤ s.elapsed 0x00018000#32 ∧ 0 < s.release ∧
    s.elapsed 0x00018000#32 < s.attack + s.release ∧ s.attack + s.release ≤ s.elapsed 0x00038000#32 ∧
    (State.init 40).release = 0 ∧ (State.init 40).attack ≤ (State.init 40).elapsed 0#32 := by
  decide +kernel

/-- EnvelopeRisesThenFalls: two stamps in the attack, and two from its end on. -/
theorem witness_envelope_shape :
    let s : State := { State.init 40 with attack := 1 / 2, release := 2 }
    0 ≤ s.attack ∧ 0 ≤ s.release ∧ s.elapsed 0x2000#32 ≤ s.elapsed 0x4000#32 ∧ s.elapsed 0x4000#32 < s.attack ∧
    s.attack ≤ s.elapsed 0x8000#32 ∧ s.elapsed 0x8000#32 ≤ s.elapsed 0x10000#32 := by
  decide +kernel

/-- EnvelopeRisesThenFalls and TickRunsTheFourControllers: the TICKs complete. -/
theorem witness_ticks : ∃ t u, exec (.tick 0x2000#32) busy = .next t ∧ exec (.tick 0x2000#32) t = .next u := ⟨_, _, rfl, rfl⟩

/-- VibratoFollowsTheTableSine, DutyWidthIsFixedOrOscillates: modulation off and on. -/
theorem witness_modulation : busy.vdepth = 0 ∧ busy.drate = 0 ∧ InUnit busy.doff ∧ ({ busy with drate := -1 } : State).drate ≠ 0 :=
  ⟨rfl, rfl, by constructor <;> decide +kernel, by decide +kernel⟩

/-- The premise of SetdoffClampsTheDutyOffset's last clause. -/
theorem witness_modulation_off : (State.init 40).drate = 0 := rfl

/-- PseudoCommandsDoWhatTheyName: a positive release. -/
theorem witness_force_volume : 0 < ({ busy with release := 16384 } : State).release := by decide +kernel

/-- ControllerOrderIsUnobservable: another order than the model's. -/
theorem witness_controller_order (e : Val) :
    [State.vibrato e, State.envelope e, State.drift, State.dutyUpdate e].Perm
      [State.envelope e, State.vibrato e, State.drift, State.dutyUpdate e] :=
  List.Perm.swap _ _ _

/-- RomImagesAreAdmissible: indexes at both sides of each clause's boundary. -/
theorem witness_rom_indexes : 256 ≤ 256 ∧ 257 ≤ 257 ∧ 512 ≤ 512 ∧ 513 ≤ 513 ∧ 1023 ≤ 1023 ∧ 255 < 256 ∧ 511 < 512 := by decide

/-- GeneratorsStayInTheirRanges: a phase on each side of, and at, each threshold. -/
theorem witness_generator_thresholds :
    frac (1 / 4) < 1 / 2 ∧ 1 / 2 ≤ frac (1 / 2) ∧ frac 0 = 0 ∧ frac (1 / 4) = 1 / 4 ∧ frac (3 / 4) = 3 / 4 := by
  decide +kernel

/-- ArbiterTakesOneHostsOldestWord, RunExecutesSomeInterleaving: both hosts present a word to a running block. -/
theorem witness_contest :
    let s := (busy.present .render 0x010000000002#48).present .control 0x110000000000#48
    s.running = true ∧ s.renderQ = [0x010000000002#48] ∧ s.controlQ = [0x110000000000#48] := by decide

end Sys2Proof.Tests
end

section
/-! PROOFS. Family 10_state: every step keeps the invariant of R45 and the value sets of 10_state.md, and both hold at reset. -/

namespace Sys2Proof.Machine

/-! ### What the commands leave in the registers -/

/-- Everything TICK writes: the four registers of R180. -/
theorem State.tick_eq (e : Val) (s : State) :
    s.tick e =
      { s with
        volume := envelopeAt s.attack s.release e
        fshift := s.vdepth * sinT (s.vrate * e)
        hoffset := s.hoffset + s.hvel
        duty := dutyAt s.drate s.doff e } := rfl

theorem State.elapsed_nonneg (now : Arg) (s : State) : 0 ≤ s.elapsed now := by
  unfold State.elapsed
  positivity

/-- A property that every sample keeps is kept by the loop. -/
theorem State.renderLoop_induct {P : State → Prop} (h : ∀ m s, P s → P (s.renderSample m))
    (mixes : Nat → Val) (n i : Nat) {s : State} (hs : P s) : P (s.renderLoop mixes n i) := by
  induction n generalizing i s with
  | zero => exact hs
  | succ n ih => exact ih (i + 1) (h (mixes i) s hs)

@[simp] theorem State.phaseAfter_freq (s : State) (len : Nat) (c : Channel) : (s.phaseAfter len c).freq = c.freq := by
  unfold State.phaseAfter
  split <;> rfl

theorem State.forall_channels_writeBack {P : Channel → Prop} {s : State} (len : Nat)
    (h : ∀ c ∈ s.channels.toList, P (s.phaseAfter len c)) : ∀ c ∈ (s.writeBack len).channels.toList, P c := by
  simpa using h

/-- A property of every channel that the change keeps still holds of every channel afterwards. -/
theorem State.forall_channels_updChannel {P : Channel → Prop} (ch : Sel) {f : Channel → Channel} {s : State}
    (hf : ∀ c, P c → P (f c)) (h : ∀ c ∈ s.channels.toList, P c) : ∀ c ∈ (s.updChannel ch f).channels.toList, P c := by
  by_cases hch : ch.toNat < Config.nch
  · rw [State.updChannel_of_lt f s hch]
    intro c hc
    rcases Vector.mem_or_eq_of_mem_set (hi := hch) (Vector.mem_toList_iff.1 hc) with hc | rfl
    · exact h c (Vector.mem_toList_iff.2 hc)
    · exact hf _ (h _ (Vector.mem_toList_iff.2 (Vector.getElem_mem hch)))
  · rwa [State.updChannel_of_not_lt f s hch]

/-- RENDER of at least one sample with the cursor outside `RB` (log 6). -/
theorem execRender_of_cursor_outside {len : Arg} {s : State} (hlen : len ≠ 0#32) (hc : s.rlen ≤ s.cursor) :
    execRender len s = .fault .reverbIndex := by
  rw [execRender, if_neg hlen, if_pos hc]

/-- RENDER of at least one sample with more harmonics than `hamp` has entries (log 6). -/
theorem execRender_of_hcount_above {len : Arg} {s : State} (hlen : len ≠ 0#32) (hc : s.cursor < s.rlen)
    (hh : Config.hmax < s.hcount) : execRender len s = .fault .harmonicIndex := by
  rw [execRender, if_neg hlen, if_neg (not_le.2 hc), if_pos hh]

/-! ### The step -/

/-- All an event can answer as a next state: a fresh reset at a legal rate, or the end of the run (R260, R265). -/
theorem State.applyEvent_eq_next {e : Lifecycle} {s t : State} (h : s.applyEvent e = .next t) :
    (∃ rate, 5 ≤ rate ∧ t = { State.init rate with lifecycle := s.lifecycle, arbSeq := s.arbSeq }) ∨
    t = { s with running := false } := by
  cases e with
  | init rate blockSize =>
    simp only [State.applyEvent] at h
    split at h
    · next hrate =>
      cases h
      exact .inl ⟨rate, hrate, rfl⟩
    · cases h
  | shutdown =>
    cases h
    exact .inr rfl

/-- What a step changes around a command is an input of the step or whether the block runs. So a property that reads neither,
that every command keeps and that holds after every init, is kept by every step. -/
theorem step_keeps {P : State → Prop}
    (hinputs : ∀ (s : State) running renderQ controlQ lifecycle arbSeq, P s →
      P { s with running := running, renderQ := renderQ, controlQ := controlQ, lifecycle := lifecycle, arbSeq := arbSeq })
    (hexec : ∀ i s t, P s → exec i s = .next t → P t)
    (hinit : ∀ rate, 5 ≤ rate → P (State.init rate))
    {s t : State} (hs : P s) (h : step s = .next t) : P t := by
  rcases step_cases s with ⟨_, w, rest, -, htaken, hstep⟩ | ⟨e, es, -, hstep⟩ | hstep | ⟨-, -, hstep⟩ <;> rw [hstep] at h
  · have hrest : P rest := htaken.frame ▸ hinputs s s.running rest.renderQ rest.controlQ s.lifecycle rest.arbSeq hs
    cases hd : decode w with
    | ok i => exact hexec i rest t hrest (acceptWord_of_ok hd rest ▸ h)
    | error err =>
      rw [acceptWord_of_error hd] at h
      cases h
      exact hrest
  · rcases State.applyEvent_eq_next h with ⟨rate, hrate, rfl⟩ | rfl
    · exact hinputs _ true [] [] es s.arbSeq (hinit rate hrate)
    · exact hinputs s false s.renderQ s.controlQ es s.arbSeq hs
  · cases h
    exact hs
  · cases h

end Sys2Proof.Machine

namespace Sys2Proof

open Sys2Proof.Machine

/-! ### The ranges of what TICK writes (R182, R185) -/

theorem inUnit_zero : InUnit 0 := ⟨le_refl 0, zero_le_one⟩

theorem inUnit_clamp (v : Val) : InUnit (clamp v 0 1) := clamp_mem zero_le_one v

theorem inUnit_envelopeAt (attack release : Val) {elapsed : Val} (h : 0 ≤ elapsed) :
    InUnit (envelopeAt attack release elapsed) := by
  unfold envelopeAt
  split
  · next hlt => exact ⟨div_nonneg h (h.trans hlt.le), div_le_one_of_le₀ hlt.le (h.trans hlt.le)⟩
  · split
    · exact inUnit_zero
    · exact inUnit_clamp _

theorem inUnit_dutyAt (drate : Val) {doff : Val} (h : InUnit doff) (elapsed : Val) : InUnit (dutyAt drate doff elapsed) := by
  unfold dutyAt
  split
  · exact h
  · obtain ⟨hlo, hhi⟩ := sinT_mem (drate * elapsed)
    unfold dutyCentre dutyDepth
    constructor <;> linarith

/-! ### The invariant of R45 -/

theorem BufferInv.nil (rlen : Nat) : BufferInv rlen [] := ⟨Memory.wf_nil, by simp⟩

theorem BufferInv.write {rlen j : Nat} {m : Memory} (hm : BufferInv rlen m) (hj : j < rlen) (v : Val) :
    BufferInv rlen (Memory.write j v m) where
  wf := Memory.wf_write hm.wf j v
  in_range c hc := by
    rcases Memory.mem_write hc with rfl | hc
    · exact hj
    · exact hm.in_range c hc

theorem ChannelInv.reset : ChannelInv Channel.reset := ⟨le_refl 0, le_refl 0, zero_lt_one⟩

theorem ChannelInv.phaseAfter {c : Channel} (hc : ChannelInv c) (s : State) (len : Nat) :
    ChannelInv (s.phaseAfter len c) := by
  unfold State.phaseAfter
  split
  · exact { hc with pp_nonneg := frac_nonneg _, pp_lt_one := frac_lt_one _ }
  · exact hc

theorem ChannelInv.withFreq {c : Channel} (hc : ChannelInv c) (hz : Arg) : ChannelInv (c.withFreq hz) :=
  { hc with freq_nonneg := clampNonneg_nonneg _ }

theorem ChannelInv.withEn {c : Channel} (hc : ChannelInv c) (en : Bool) : ChannelInv (c.withEn en) := { hc with }

namespace Inv

theorem init {rate : Nat} (h : 5 ≤ rate) : Inv (State.init rate) where
  sr_ge := h
  channels := by simp [State.init, ChannelInv.reset]
  volume := inUnit_zero
  hcount_pos := le_refl 1
  hcount_le := by simp [State.init]
  duty := inUnit_zero
  doff := inUnit_zero
  attack := le_refl 0
  release := le_refl 0
  cursor := Nat.div_pos h (by decide)
  rb := .nil _

variable {s : State}

theorem renderSample (m : Val) (hs : Inv s) : Inv (s.renderSample m) :=
  { hs with
    cursor := Nat.mod_lt _ (Nat.zero_lt_of_lt hs.cursor)
    rb := hs.rb.write hs.cursor m }

theorem writeBack (len : Nat) (hs : Inv s) : Inv (s.writeBack len) :=
  { hs with channels := State.forall_channels_writeBack len fun c hc => (hs.channels c hc).phaseAfter s len }

theorem render (len : Nat) (hs : Inv s) : Inv (s.render len) :=
  (State.renderLoop_induct (fun m _ => renderSample m) s.mix len 0 hs).writeBack len

theorem tick {e : Val} (he : 0 ≤ e) (hs : Inv s) : Inv (s.tick e) := by
  rw [State.tick_eq]
  exact { hs with volume := inUnit_envelopeAt _ _ he, duty := inUnit_dutyAt _ hs.doff _ }

theorem updChannel (ch : Sel) {f : Channel → Channel} (hf : ∀ c, ChannelInv c → ChannelInv (f c)) (hs : Inv s) :
    Inv (s.updChannel ch f) := by
  rw [State.updChannel_frame]
  exact { hs with channels := State.forall_channels_updChannel ch hf hs.channels }

/-- Every command keeps the invariant: a register that a command writes is clamped to its range or unbounded. -/
theorem exec {t : State} (i : Instr) (hs : Inv s) (h : Machine.exec i s = .next t) : Inv t := by
  cases i with
  | render len =>
    rw [execRender_eq_next h]
    exact hs.render _
  | tick now =>
    cases h
    exact hs.tick (s.elapsed_nonneg now)
  | noteon | setmask | sethvel | setdrate | setvdep | setvrate =>
    cases h
    exact { hs with }
  | setfreq ch hz =>
    cases h
    exact hs.updChannel ch fun c hc => hc.withFreq hz
  | seten ch en =>
    cases h
    exact hs.updChannel ch fun c hc => hc.withEn en
  | setch0 ch hz =>
    cases h
    exact hs.updChannel ch fun c hc => (hc.withFreq hz).withEn false
  | setch1 ch hz =>
    cases h
    exact hs.updChannel ch fun c hc => (hc.withFreq hz).withEn true
  | sethcnt n =>
    cases h
    obtain ⟨hpos, hle⟩ := clampCount_mem (formN n)
    exact { hs with hcount_pos := hpos, hcount_le := hle }
  | setdoff w =>
    cases h
    exact { hs with doff := inUnit_clamp _ }
  | setatk seconds =>
    cases h
    exact { hs with attack := clampNonneg_nonneg _ }
  | setrel seconds =>
    cases h
    exact { hs with release := clampNonneg_nonneg _ }

end Inv

/-! ### Values of the operand format (R104) -/

theorem OnGrid.add {v w : Val} (hv : OnGrid v) (hw : OnGrid w) : OnGrid (v + w) := by
  obtain ⟨a, rfl⟩ := hv
  obtain ⟨b, rfl⟩ := hw
  exact ⟨a + b, by push_cast; ring⟩

theorem OnGrid.neg {v : Val} (hv : OnGrid v) : OnGrid (-v) := by
  obtain ⟨a, rfl⟩ := hv
  exact ⟨-a, by push_cast; ring⟩

theorem onGrid_zero : OnGrid 0 := ⟨0, by norm_num⟩

theorem onGrid_one : OnGrid 1 := ⟨65536, by norm_num⟩

theorem onGrid_sinHalf (i : Nat) : OnGrid (sinHalf i) := ⟨(quad.getD (if i ≤ 256 then i else 512 - i) 0 : Nat), rfl⟩

/-- Every sine lookup is a multiple of 2^-16 (R92). -/
theorem onGrid_sinT (t : Val) : OnGrid (sinT t) := by
  unfold sinT sinRom
  split
  · exact onGrid_sinHalf _
  · exact (onGrid_sinHalf _).neg

theorem onGrid_clamp {v lo hi : Val} (hv : OnGrid v) (hlo : OnGrid lo) (hhi : OnGrid hi) : OnGrid (clamp v lo hi) := by
  unfold clamp
  split
  · exact hlo
  · split
    · exact hhi
    · exact hv

theorem inQ_zero : InQ 0 := ⟨onGrid_zero, by norm_num, by norm_num⟩

theorem inQ_formQ (arg : Arg) : InQ (formQ arg) := by
  have hlo : (-2147483648 : Val) ≤ arg.toInt := by exact_mod_cast arg.le_toInt
  have hhi : (arg.toInt : Val) ≤ 2147483647 := by exact_mod_cast Int.le_of_lt_add_one arg.toInt_lt
  refine ⟨⟨arg.toInt, rfl⟩, ?_, ?_⟩ <;> unfold formQ <;> linarith

theorem inQ_clampNonneg {v : Val} (hv : InQ v) : InQ (clampNonneg v) := by
  unfold clampNonneg
  split
  · exact inQ_zero
  · exact hv

/-- The value set of a register of form `q` that is clamped at 0 (R21, R37, R38). -/
theorem inQ_clampNonneg_formQ (arg : Arg) : InQ (clampNonneg (formQ arg)) ∧ 0 ≤ clampNonneg (formQ arg) :=
  ⟨inQ_clampNonneg (inQ_formQ arg), clampNonneg_nonneg _⟩

/-- The product of a depth and a sine lookup: `FSHIFT`'s value set (R36). -/
theorem mul_sinT_mem {v : Val} (hv : InQ v) (t : Val) :
    (∃ z : Int, v * sinT t = (z : Val) / 4294967296) ∧ -32768 ≤ v * sinT t ∧ v * sinT t ≤ 32768 := by
  obtain ⟨⟨a, ha⟩, hlo, hhi⟩ := hv
  obtain ⟨b, hb⟩ := onGrid_sinT t
  have habs : |v * sinT t| ≤ 32768 * 1 := by
    rw [abs_mul]
    exact mul_le_mul (abs_le.2 ⟨hlo, by linarith⟩) (abs_le.2 (sinT_mem t)) (abs_nonneg _) (by norm_num)
  refine ⟨⟨a * b, ?_⟩, abs_le.1 (by simpa using habs)⟩
  rw [ha, hb]
  push_cast
  ring

/-! ### The value sets of 10_state.md -/

namespace ValueSets

theorem init (rate : Nat) : ValueSets (State.init rate) where
  freq := by simp [State.init, Channel.reset, inQ_zero]
  hoffset := onGrid_zero
  hvel := inQ_zero
  doff := ⟨onGrid_zero, inUnit_zero⟩
  drate := inQ_zero
  vdepth := inQ_zero
  vrate := inQ_zero
  fshift := ⟨⟨0, by simp [State.init]⟩, by norm_num [State.init], by norm_num [State.init]⟩
  attack := ⟨inQ_zero, le_refl 0⟩
  release := ⟨inQ_zero, le_refl 0⟩

variable {s : State}

theorem render (len : Nat) (hs : ValueSets s) : ValueSets (s.render len) := by
  have hloop : ValueSets (s.renderLoop s.mix len 0) := State.renderLoop_induct (fun m _ h => { h with }) s.mix len 0 hs
  exact { hloop with
    freq := State.forall_channels_writeBack (P := fun c => InQ c.freq ∧ 0 ≤ c.freq) len (by simpa using hloop.freq) }

theorem tick (e : Val) (hs : ValueSets s) : ValueSets (s.tick e) := by
  rw [State.tick_eq]
  exact { hs with hoffset := hs.hoffset.add hs.hvel.1, fshift := mul_sinT_mem hs.vdepth _ }

theorem updChannel (ch : Sel) {f : Channel → Channel}
    (hf : ∀ c, InQ c.freq ∧ 0 ≤ c.freq → InQ (f c).freq ∧ 0 ≤ (f c).freq) (hs : ValueSets s) :
    ValueSets (s.updChannel ch f) := by
  rw [State.updChannel_frame]
  exact { hs with freq := State.forall_channels_updChannel ch hf hs.freq }

/-- Every command keeps the value sets: a setter writes an operand, clamped or not; TICK adds and multiplies grid values. -/
theorem exec {t : State} (i : Instr) (hs : ValueSets s) (h : Machine.exec i s = .next t) : ValueSets t := by
  cases i with
  | render len =>
    rw [execRender_eq_next h]
    exact hs.render _
  | tick now =>
    cases h
    exact hs.tick _
  | noteon | setmask | sethcnt =>
    cases h
    exact { hs with }
  | seten ch en =>
    cases h
    exact hs.updChannel ch fun c hc => hc
  | setfreq ch hz | setch0 ch hz | setch1 ch hz =>
    cases h
    exact hs.updChannel ch fun c _ => inQ_clampNonneg_formQ hz
  | sethvel v =>
    cases h
    exact { hs with hvel := inQ_formQ v }
  | setdoff w =>
    cases h
    exact { hs with doff := ⟨onGrid_clamp (inQ_formQ w).1 onGrid_zero onGrid_one, inUnit_clamp _⟩ }
  | setdrate hz =>
    cases h
    exact { hs with drate := inQ_formQ hz }
  | setvdep hz =>
    cases h
    exact { hs with vdepth := inQ_formQ hz }
  | setvrate hz =>
    cases h
    exact { hs with vrate := inQ_formQ hz }
  | setatk seconds =>
    cases h
    exact { hs with attack := inQ_clampNonneg_formQ seconds }
  | setrel seconds =>
    cases h
    exact { hs with release := inQ_clampNonneg_formQ seconds }

end ValueSets

/-! ### The statements -/

theorem Config.five_le_sampleRate : 5 ≤ Config.sampleRate := Nat.le_add_right _ _

/-- Settles O56: `Inv` reads no input of the step, every command keeps it, and it holds after every init. -/
theorem everyStepKeepsTheInvariant : Obligations.EveryStepKeepsTheInvariant := fun _ _ =>
  step_keeps (fun _ _ _ _ _ _ hs => { hs with }) (fun i _ _ hs => hs.exec i) fun _ => Inv.init

/-- Settles O57, as O56 is settled, by the same lemma about the step. -/
theorem everyStepKeepsTheValueSets : Obligations.EveryStepKeepsTheValueSets := fun _ _ =>
  step_keeps (fun _ _ _ _ _ _ hs => { hs with }) (fun i _ _ hs => hs.exec i) fun rate _ => ValueSets.init rate

/-- Settles O18: every value is read off `State.init`. -/
theorem resetValues : Obligations.ResetValues := by
  refine ⟨rfl, Config.five_le_sampleRate, fun rate => ?_⟩
  simp [State.init, Channel.reset, Memory.unlisted]

/-- Settles O54, by RENDER's two guards (log 6). -/
theorem renderStopsOutsideItsMemories : Obligations.RenderStopsOutsideItsMemories := fun _ _ hlen =>
  ⟨execRender_of_cursor_outside hlen, execRender_of_hcount_above hlen⟩

/-- Settles O55: reset is the init at the open rate. -/
theorem invariantHoldsAtReset : Obligations.InvariantHoldsAtReset :=
  ⟨Inv.init Config.five_le_sampleRate, ValueSets.init _, fun rate h => ⟨Inv.init h, ValueSets.init rate⟩⟩

end Sys2Proof
end

section
/-! PROOFS. Family 20_memory: the serial form of a word (R65, R100), and the port of the two hosts (R75 to R78). -/

namespace Sys2Proof

/-! ### Words and their bytes (R65) -/

/-- The bytes of a word are its two byte fields and the bytes of its operand field (R101). -/
theorem bytesOfWord_eq_fields (w : Word48) :
    bytesOfWord w =
      [opField w, selField w, (argField w).extractLsb' 24 8, (argField w).extractLsb' 16 8, (argField w).extractLsb' 8 8,
        (argField w).extractLsb' 0 8] := by
  simp [bytesOfWord, opField, selField, argField, BitVec.extractLsb'_extractLsb'_of_le]

/-- The bytes of a word put together again: neighbouring slices join to one slice, and the whole slice is the word. -/
theorem wordOfBytes_slices (w : Word48) :
    wordOfBytes (w.extractLsb' 40 8) (w.extractLsb' 32 8) (w.extractLsb' 24 8) (w.extractLsb' 16 8) (w.extractLsb' 8 8)
      (w.extractLsb' 0 8) = w := by
  unfold wordOfBytes
  iterate 5 rw [BitVec.extractLsb'_append_extractLsb'_eq_extractLsb' (by rfl)]
  exact BitVec.extractLsb'_eq_self

theorem decodeBytes_bytesOfWord_append (w : Word48) (rest : List Byte) :
    decodeBytes (bytesOfWord w ++ rest) =
      match decode w with
      | .ok i => .ok (i, rest)
      | .error e => .error e := by
  cases hd : decode w <;> simp only [bytesOfWord, List.cons_append, List.nil_append, decodeBytes, wordOfBytes_slices, hd]

theorem decodeBytes_of_length_lt {bytes : List Byte} (h : bytes.length < 6) : decodeBytes bytes = .error .truncated := by
  unfold decodeBytes
  split
  · simp at h
    omega
  · rfl

end Sys2Proof

namespace Sys2Proof.Machine

/-! ### What no command reads or writes -/

/-- The fields of the state that are no register, memory or port of the block: the inputs of a step, and whether it runs. -/
structure Inputs where
  running : Bool
  renderQ : List Word48
  controlQ : List Word48
  lifecycle : List Lifecycle
  arbSeq : Nat

/-- The inputs of a state. -/
def State.inputs (s : State) : Inputs where
  running := s.running
  renderQ := s.renderQ
  controlQ := s.controlQ
  lifecycle := s.lifecycle
  arbSeq := s.arbSeq

/-- The state with its inputs replaced. -/
def State.withInputs (x : Inputs) (s : State) : State :=
  { s with
    running := x.running
    renderQ := x.renderQ
    controlQ := x.controlQ
    lifecycle := x.lifecycle
    arbSeq := x.arbSeq }

/-- An outcome with its next state changed, where there is one. -/
def mapNext (f : State → State) : Host.Outcome State Fault Refusal → Host.Outcome State Fault Refusal
  | .next s => .next (f s)
  | .fault r => .fault r
  | .refused r => .refused r

theorem State.inputs_eq_iff {s t : State} :
    s.inputs = t.inputs ↔ s.running = t.running ∧ s.renderQ = t.renderQ ∧ s.controlQ = t.controlQ ∧
      s.lifecycle = t.lifecycle ∧ s.arbSeq = t.arbSeq := by
  simp [State.inputs]

theorem inputs_of_mapNext_withInputs {x : Inputs} {o : Host.Outcome State Fault Refusal} {t : State}
    (h : mapNext (State.withInputs x) o = .next t) : t.inputs = x := by
  cases o <;> cases h
  rfl

section
variable (x : Inputs)

@[simp] theorem State.withInputs_rlen (s : State) : (s.withInputs x).rlen = s.rlen := rfl
@[simp] theorem State.withInputs_cursor (s : State) : (s.withInputs x).cursor = s.cursor := rfl
@[simp] theorem State.withInputs_hcount (s : State) : (s.withInputs x).hcount = s.hcount := rfl

theorem State.updChannel_withInputs (ch : Sel) (f : Channel → Channel) (s : State) :
    (s.withInputs x).updChannel ch f = (s.updChannel ch f).withInputs x := by
  unfold State.updChannel
  split <;> rfl

theorem State.renderLoop_withInputs (mixes : Nat → Val) (n i : Nat) (s : State) :
    (s.withInputs x).renderLoop mixes n i = (s.renderLoop mixes n i).withInputs x := by
  induction n generalizing i s with
  | zero => rfl
  | succ n ih => exact ih (i + 1) (s.renderSample (mixes i))

theorem State.render_withInputs (len : Nat) (s : State) : (s.withInputs x).render len = (s.render len).withInputs x :=
  congrArg (State.writeBack len) (State.renderLoop_withInputs x s.mix len 0 s)

theorem execRender_withInputs (len : Arg) (s : State) :
    execRender len (s.withInputs x) = mapNext (State.withInputs x) (execRender len s) := by
  simp only [execRender, State.render_withInputs, State.withInputs_rlen, State.withInputs_cursor, State.withInputs_hcount]
  split_ifs <;> rfl

/-- A command does the same whatever the inputs are, and leaves them as they are (R75, R76). -/
theorem exec_withInputs (i : Instr) (s : State) :
    exec i (s.withInputs x) = mapNext (State.withInputs x) (exec i s) := by
  cases i with
  | render len => exact execRender_withInputs x len s
  | setfreq ch | seten ch | setch0 ch | setch1 ch => exact congrArg _ (State.updChannel_withInputs x ch _ s)
  | tick | noteon | setmask | sethcnt | sethvel | setdoff | setdrate | setvdep | setvrate | setatk | setrel => rfl

theorem acceptWord_withInputs (w : Word48) (s : State) :
    acceptWord w (s.withInputs x) = mapNext (State.withInputs x) (acceptWord w s) := by
  cases hd : decode w with
  | ok i => simp only [acceptWord_of_ok hd, exec_withInputs]
  | error e => simp only [acceptWord_of_error hd, mapNext]

theorem acceptAll_withInputs (ws : List Word48) (s : State) :
    acceptAll ws (s.withInputs x) = mapNext (State.withInputs x) (acceptAll ws s) := by
  induction ws generalizing s with
  | nil => rfl
  | cons w ws ih =>
    simp only [acceptAll, acceptWord_withInputs]
    cases acceptWord w s with
    | next t => exact ih t
    | fault r => rfl
    | refused r => rfl

end

/-- Executing a word leaves the inputs as they are (R75, R76). -/
theorem acceptWord_inputs {w : Word48} {s t : State} (h : acceptWord w s = .next t) : t.inputs = s.inputs :=
  inputs_of_mapNext_withInputs ((acceptWord_withInputs s.inputs w s).symm.trans h)

theorem acceptAll_inputs {ws : List Word48} {s t : State} (h : acceptAll ws s = .next t) : t.inputs = s.inputs :=
  inputs_of_mapNext_withInputs ((acceptAll_withInputs s.inputs ws s).symm.trans h)

/-! ### The word a step takes (R75, R76) -/

section
variable {s : State} {w w' : Word48} {q q' : List Word48}

theorem step_of_select_word {h : HostId} {rest : State} (hs : s.select = .word h w rest) : step s = acceptWord w rest := by
  rw [step, hs, carryOut]

theorem step_renderOnly (hrun : s.running = true) (hr : s.renderQ = w :: q) (hc : s.controlQ = []) :
    step s = acceptWord w (s.takeRender q) :=
  step_of_select_word (h := .render) (by simp [State.select, hrun, hr, hc])

theorem step_controlOnly (hrun : s.running = true) (hc : s.controlQ = w :: q) (hr : s.renderQ = []) :
    step s = acceptWord w (s.takeControl q) :=
  step_of_select_word (h := .control) (by simp [State.select, hrun, hr, hc])

theorem step_contested_render (hrun : s.running = true) (hr : s.renderQ = w :: q) (hc : s.controlQ = w' :: q')
    (harb : Config.arbiter s.arbSeq = .render) : step s = acceptWord w (s.takeRender q).countChoice :=
  step_of_select_word (h := .render) (by simp [State.select, hrun, hr, hc, harb])

theorem step_contested_control (hrun : s.running = true) (hr : s.renderQ = w :: q) (hc : s.controlQ = w' :: q')
    (harb : Config.arbiter s.arbSeq = .control) : step s = acceptWord w' (s.takeControl q').countChoice :=
  step_of_select_word (h := .control) (by simp [State.select, hrun, hr, hc, harb])

end

/-! ### As many steps as words are waiting (R75, R76, R78) -/

/-- How many words the hosts have issued and the block has not accepted. -/
def State.waiting (s : State) : Nat := s.renderQ.length + s.controlQ.length

theorem State.waiting_eq_zero_iff {s : State} : s.waiting = 0 ↔ s.renderQ = [] ∧ s.controlQ = [] := by
  simp [State.waiting]

/-- A step of a running block accepts a word whenever one is waiting (R76). -/
theorem step_of_waiting {s : State} (hrun : s.running = true) (hw : s.waiting ≠ 0) :
    ∃ h w rest, Taken s h w rest ∧ step s = acceptWord w rest := by
  rcases s.select_cases with ⟨h, w, rest, -, ht, hs⟩ | ⟨e, es, -, hempty, -⟩ | ⟨-, -, hr, hc, -⟩ | ⟨-, hstop, -⟩
  · exact ⟨h, w, rest, ht, step_of_select_word hs⟩
  · exact absurd (State.waiting_eq_zero_iff.2 (hempty hrun)) hw
  · exact absurd (State.waiting_eq_zero_iff.2 ⟨hr, hc⟩) hw
  · simp [hrun] at hstop

theorem Taken.waiting {s rest : State} {h : HostId} {w : Word48} (ht : Taken s h w rest) :
    s.waiting = rest.waiting + 1 := by
  cases ht with
  | renderOnly hr | renderFirst hr =>
    simp [State.waiting, hr]
    omega
  | controlOnly hc | controlFirst hc =>
    simp [State.waiting, hc]
    omega

/-- The word taken, put before an interleaving of what is left, is an interleaving of what was waiting. -/
theorem Taken.interleaves {s rest : State} {h : HostId} {w : Word48} {ws : List Word48} (ht : Taken s h w rest)
    (hi : Interleaves rest.renderQ rest.controlQ ws) : Interleaves s.renderQ s.controlQ (w :: ws) := by
  cases ht with
  | renderOnly hr | renderFirst hr =>
    rw [hr]
    exact .render w hi
  | controlOnly hc | controlFirst hc =>
    rw [hc]
    exact .control w hi

theorem exists_interleaves (rs cs : List Word48) : ∃ ws, Interleaves rs cs ws := by
  induction rs with
  | nil =>
    induction cs with
    | nil => exact ⟨[], .nil⟩
    | cons c cs ih => exact ih.imp' (c :: ·) fun _ h => .control c h
  | cons r rs ih => exact ih.imp' (r :: ·) fun _ h => .render r h

/-- The inputs with no word waiting and the arbiter's counter at `k`. -/
def Inputs.drained (k : Nat) (x : Inputs) : Inputs := { x with renderQ := [], controlQ := [], arbSeq := k }

/-- The state with no word waiting and the arbiter's counter at `k`. -/
def State.drained (k : Nat) (s : State) : State := s.withInputs (s.inputs.drained k)

/-- Taking a word changes nothing but the hosts' words and the arbiter's counter. -/
theorem Taken.drained {s rest : State} {h : HostId} {w : Word48} (ht : Taken s h w rest) (k : Nat) :
    s.drained k = rest.drained k := by
  cases ht <;> rfl

theorem State.drained_of_waiting_eq_zero {s : State} (h : s.waiting = 0) : s.drained s.arbSeq = s := by
  obtain ⟨hr, hc⟩ := State.waiting_eq_zero_iff.1 h
  have hinputs : s.inputs.drained s.arbSeq = s.inputs := by simp [Inputs.drained, State.inputs, hr, hc]
  rw [State.drained, hinputs]
  rfl

/-- The word taken does the same with no word waiting. -/
theorem Taken.acceptWord_drained {s rest : State} {h : HostId} {w : Word48} (ht : Taken s h w rest) (k : Nat) :
    acceptWord w (s.drained k) = mapNext (State.withInputs (rest.inputs.drained k)) (acceptWord w rest) := by
  rw [ht.drained, State.drained, acceptWord_withInputs]

/-- The run of R76, by induction on the number of words waiting: a step executes one of them, to the same effect as with no
word waiting. Where that word stops the block, the words behind it can be in any order. -/
theorem core_run_eq_acceptAll (n : Nat) {s : State} (hrun : s.running = true) (hn : s.waiting = n) :
    ∃ ws k, Interleaves s.renderQ s.controlQ ws ∧ core.run n s = acceptAll ws (s.drained k) := by
  induction n generalizing s with
  | zero =>
    obtain ⟨hr, hc⟩ := State.waiting_eq_zero_iff.1 hn
    exact ⟨[], s.arbSeq, by rw [hr, hc]; exact .nil, congrArg _ (State.drained_of_waiting_eq_zero hn).symm⟩
  | succ n ih =>
    obtain ⟨h, w, rest, ht, hstep⟩ := step_of_waiting hrun (by omega)
    have hwaiting := ht.waiting
    cases hacc : acceptWord w rest with
    | next t =>
      have hinputs := acceptWord_inputs hacc
      obtain ⟨hrun', hr, hc, -, -⟩ := State.inputs_eq_iff.1 hinputs
      have hrest : rest.running = true := ht.frame ▸ hrun
      obtain ⟨ws, k, hi, hws⟩ := ih (s := t) (hrun'.trans hrest) (by rw [State.waiting, hr, hc, ← State.waiting]; omega)
      refine ⟨w :: ws, k, ht.interleaves (hr ▸ hc ▸ hi), ?_⟩
      simp only [Host.Core.run, core, hstep, hacc, acceptAll, ht.acceptWord_drained, mapNext, ← hinputs]
      exact hws
    | fault r | refused r =>
      obtain ⟨ws, hi⟩ := exists_interleaves rest.renderQ rest.controlQ
      refine ⟨w :: ws, s.arbSeq, ht.interleaves hi, ?_⟩
      simp only [Host.Core.run, core, hstep, hacc, acceptAll, ht.acceptWord_drained, mapNext]

end Sys2Proof.Machine

namespace Sys2Proof

open Sys2Proof.Machine

/-! ### No word stops a block that meets the invariant (R78, R230) -/

namespace Inv

variable {s : State}

theorem withInputs (x : Inputs) (hs : Inv s) : Inv (s.withInputs x) := { hs with }

/-- Every command completes: the only one that can stop is RENDER, whose indexes the invariant bounds (R66). -/
theorem exec_next (i : Instr) (hs : Inv s) : ∃ t, Machine.exec i s = .next t := by
  cases i with
  | render len => exact ⟨_, execRender_next len hs.cursor hs.hcount_le⟩
  | tick | noteon | setfreq | seten | setch0 | setch1 | setmask | sethcnt | sethvel | setdoff | setdrate | setvdep | setvrate
  | setatk | setrel => exact ⟨_, rfl⟩

theorem acceptWord_next (w : Word48) (hs : Inv s) : ∃ t, acceptWord w s = .next t ∧ Inv t := by
  cases hd : decode w with
  | ok i =>
    obtain ⟨t, ht⟩ := hs.exec_next i
    exact ⟨t, (acceptWord_of_ok hd s).trans ht, hs.exec i ht⟩
  | error e => exact ⟨s, acceptWord_of_error hd s, hs⟩

theorem acceptAll_next (ws : List Word48) (hs : Inv s) : ∃ t, acceptAll ws s = .next t ∧ Inv t := by
  induction ws generalizing s with
  | nil => exact ⟨s, rfl, hs⟩
  | cons w ws ih =>
    obtain ⟨t, ht, hinv⟩ := hs.acceptWord_next w
    simpa only [acceptAll, ht] using ih hinv

end Inv

/-! ### The statements -/

/-- Settles O6: the slices of a word are its fields, and put together they are the word. -/
theorem serialWordIsSixBytesMostSignificantFirst : Obligations.SerialWordIsSixBytesMostSignificantFirst :=
  ⟨bytesOfWord_eq_fields, decodeBytes_bytesOfWord_append, fun _ => decodeBytes_of_length_lt⟩

/-- Settles O13, by induction on the number of words waiting. -/
theorem runExecutesSomeInterleaving : Obligations.RunExecutesSomeInterleaving := fun _ hrun =>
  core_run_eq_acceptAll _ hrun rfl

/-- Settles O14: the run is some sequence of words (O13), which completes under the invariant and leaves the inputs as they
are, here with no word waiting. -/
theorem everyIssuedWordIsAccepted : Obligations.EveryIssuedWordIsAccepted := by
  intro s hs hrun
  obtain ⟨ws, k, -, hws⟩ := core_run_eq_acceptAll _ hrun rfl
  obtain ⟨t, ht, hinv⟩ := (hs.withInputs (s.inputs.drained k)).acceptAll_next ws
  obtain ⟨hrun', hr, hc, -, -⟩ := State.inputs_eq_iff.1 (acceptAll_inputs ht)
  exact ⟨t, hws.trans ht, hr, hc, hrun'.trans hrun, hinv⟩

/-- Settles O9: the step accepts the word the arbiter takes, and a word that decodes is executed. -/
theorem stepRunsTheAcceptedCommand : Obligations.StepRunsTheAcceptedCommand := by
  intro s w w' q q' i j hi hj
  refine ⟨fun hrun hr hc => ?_, fun hrun hc hr => ?_, fun hrun hr hc => ?_, fun nbits n hw => ?_⟩
  · exact (step_renderOnly hrun hr hc).trans (acceptWord_of_ok hi _)
  · exact (step_controlOnly hrun hc hr).trans (acceptWord_of_ok hi _)
  · split
    · next harb => exact (step_contested_render hrun hr hc harb).trans (acceptWord_of_ok hi _)
    · next harb => exact (step_contested_control hrun hr hc harb).trans (acceptWord_of_ok hj _)
  · rw [State.withFetchWord, hw]
    exact (step_controlOnly rfl rfl rfl).trans (acceptWord_of_ok hi _)

/-- Settles O11, by the two answers of the arbiter (log 2). -/
theorem arbiterTakesOneHostsOldestWord : Obligations.ArbiterTakesOneHostsOldestWord := by
  intro s r c rs cs hrun hr hc
  cases harb : Config.arbiter s.arbSeq with
  | render => exact .inl (step_contested_render hrun hr hc harb)
  | control => exact .inr (step_contested_control hrun hr hc harb)

end Sys2Proof
end

section
/-! PROOFS. Family 25_rom_images: the sine image case by case (R92), and the properties of an admissible image (R94). -/

namespace Sys2Proof.Machine

/-! ### The sine image by quadrants (R92) -/

theorem sinHalf_of_le {i : Nat} (h : i ≤ 256) : sinHalf i = (quad.getD i 0 : Nat) / 65536 := by
  rw [sinHalf, if_pos h]

theorem sinHalf_of_gt {i : Nat} (h : 256 < i) : sinHalf i = (quad.getD (512 - i) 0 : Nat) / 65536 := by
  rw [sinHalf, if_neg h.not_ge]

theorem sinRom_of_le {i : Nat} (h : i ≤ 512) : sinRom i = sinHalf i := if_pos h

theorem sinRom_of_gt {i : Nat} (h : 512 < i) : sinRom i = -sinHalf (i - 512) := if_neg h.not_ge

/-! ### The entries on the axes (R94 (b)) -/

theorem quad_getD_zero : quad.getD 0 0 = 0 := rfl

theorem quad_getD_256 : quad.getD 256 0 = 65536 := rfl

@[simp] theorem sinRom_zero : sinRom 0 = 0 := by
  rw [sinRom_of_le (by decide), sinHalf_of_le (by decide), quad_getD_zero, Nat.cast_zero, zero_div]

@[simp] theorem sinRom_256 : sinRom 256 = 1 := by
  rw [sinRom_of_le (by decide), sinHalf_of_le (by decide), quad_getD_256]
  norm_num

@[simp] theorem sinRom_512 : sinRom 512 = 0 := by
  rw [sinRom_of_le (by decide), sinHalf_of_gt (by decide), Nat.sub_self, quad_getD_zero, Nat.cast_zero, zero_div]

/-! ### Half a turn negates (R94 (c)) -/

/-- The second half turn is the first one negated. At `i = 0` the entry half a turn on is still the first half's last
one, which agrees because both are 0. -/
theorem sinRom_add_512 {i : Nat} (h : i ≤ 512) : sinRom (i + 512) = -sinRom i := by
  obtain rfl | hi := i.eq_zero_or_pos
  · simp
  · rw [sinRom_of_gt (by omega), Nat.add_sub_cancel, sinRom_of_le h]

theorem sinRom_768 : sinRom 768 = -1 := by
  rw [sinRom_add_512 (i := 256) (by decide), sinRom_256]

/-- The cosine starts at the sine's quarter turn (R93). -/
theorem cosRom_zero : cosRom 0 = 1 := sinRom_256

/-! ### The statement -/

/-- Settles O42: the check sums are computed; the entries and their range follow from the image's cases. -/
theorem romImagesAreAdmissible : Obligations.RomImagesAreAdmissible := by
  refine ⟨by decide +kernel, by decide +kernel, by decide +kernel, fun i hi => ?quarter, fun i hlo hhi => ?half,
    fun i hlo hhi => ?secondHalf, fun _ _ => rfl, fun i _ => sinRom_mem i, sinRom_zero, sinRom_256, sinRom_512, sinRom_768,
    cosRom_zero, fun i hi => sinRom_add_512 hi.le⟩
  case quarter => rw [sinRom_of_le (by omega), sinHalf_of_le hi]
  case half => rw [sinRom_of_le hhi, sinHalf_of_gt hlo]
  case secondHalf => rw [sinRom_of_gt hlo, sinRom_of_le (by omega)]

end Sys2Proof.Machine
end

section
/-! PROOFS. Family 30_encoding: the decoder against the encoder (R101, R107), the legal words (R110) and the opcode table
(R118), illegal words (R112, R113), and the assembler (R116, R117). -/

namespace Sys2Proof

/-! ### What the decoder's conditions answer (R106, R110) -/

theorem classN_eq_ok_iff {sel : Sel} {i j : Instr} : classN sel i = .ok j ↔ sel = 0#8 ∧ i = j := by
  unfold classN
  split <;> simp [*]

theorem classC_eq_ok_iff {sel : Sel} {i j : Instr} : classC sel i = .ok j ↔ channelOk sel = true ∧ i = j := by
  unfold classC
  split <;> simp [*]

theorem checkArg_eq_ok_iff {ok : Bool} {arg : Arg} {r : Except Illegal Instr} {j : Instr} :
    checkArg ok arg r = .ok j ↔ r = .ok j ∧ ok = true := by
  cases r <;> cases ok <;> simp [checkArg]

theorem channelOk_iff {ch : Sel} : channelOk ch = true ↔ ch.toNat < 5 := decide_eq_true_iff

/-- The bits of a slice up to the top are zero exactly in the values below the slice. -/
theorem extractLsb'_eq_zero_iff {n k m : Nat} (hn : n = k + m) (x : BitVec n) :
    x.extractLsb' k m = 0#m ↔ x.toNat < 2 ^ k := by
  have hlt : x.toNat / 2 ^ k < 2 ^ m := Nat.div_lt_of_lt_mul (by rw [← Nat.pow_add, ← hn]; exact x.isLt)
  rw [← BitVec.toNat_inj, BitVec.extractLsb'_toNat, Nat.shiftRight_eq_div_pow, Nat.mod_eq_of_lt hlt, BitVec.toNat_ofNat,
    Nat.zero_mod, Nat.div_eq_zero_iff_lt (Nat.two_pow_pos k)]

theorem formEOk_iff {arg : Arg} : formEOk arg = true ↔ arg.toNat < 2 :=
  beq_iff_eq.trans (extractLsb'_eq_zero_iff (by rfl) arg)

theorem formMOk_iff {arg : Arg} : formMOk arg = true ↔ arg.toNat < 16 :=
  beq_iff_eq.trans (extractLsb'_eq_zero_iff (by rfl) arg)

/-- An operand of form `e` is its lowest bit. -/
theorem argBits_seten_of_formEOk (ch : Sel) {arg : Arg} (h : formEOk arg = true) :
    (Instr.seten ch (arg.getLsbD 0)).argBits = arg := by
  have hlt := formEOk_iff.1 h
  obtain rfl | rfl : arg = 0#32 ∨ arg = 1#32 := by
    simp only [← BitVec.toNat_inj, BitVec.toNat_ofNat]
    omega
  · rfl
  · rfl

/-- An operand of form `m` is its four lowest bits. -/
theorem argBits_setmask_of_formMOk {arg : Arg} (h : formMOk arg = true) :
    (Instr.setmask (arg.extractLsb' 0 4)).argBits = arg := by
  rw [Instr.argBits, ← beq_iff_eq.1 h, BitVec.extractLsb'_append_extractLsb'_eq_extractLsb' (by rfl),
    BitVec.extractLsb'_eq_self]

theorem formEOk_argBits_seten (ch : Sel) (en : Bool) : formEOk (Instr.seten ch en).argBits = true := by
  cases en <;> simp [Instr.argBits, formEOk]

theorem getLsbD_argBits_seten (ch : Sel) (en : Bool) : (Instr.seten ch en).argBits.getLsbD 0 = en := by
  cases en <;> simp [Instr.argBits]

theorem formMOk_argBits_setmask (mask : BitVec 4) : formMOk (Instr.setmask mask).argBits = true :=
  beq_iff_eq.2 BitVec.extractLsb'_append_eq_left

theorem extractLsb'_argBits_setmask (mask : BitVec 4) : (Instr.setmask mask).argBits.extractLsb' 0 4 = mask :=
  BitVec.extractLsb'_append_eq_right

/-! ### The decoder inverts the encoder (R101, R107, R110) -/

/-- Decoding after encoding: the opcode selects the command's own branch, whose conditions its other fields meet. -/
theorem decode_encode {i : Instr} (h : i.wellFormed = true) : decode (encode i) = .ok i := by
  simp only [decode, encode, opField_assemble, selField_assemble, argField_assemble]
  cases i with
  | render | tick | noteon | sethcnt | sethvel | setdoff | setdrate | setvdep | setvrate | setatk | setrel => rfl
  | setmask mask =>
    exact checkArg_eq_ok_iff.2
      ⟨classN_eq_ok_iff.2 ⟨rfl, congrArg _ (extractLsb'_argBits_setmask mask)⟩, formMOk_argBits_setmask mask⟩
  | setfreq | setch0 | setch1 => exact classC_eq_ok_iff.2 ⟨h, rfl⟩
  | seten ch en =>
    exact checkArg_eq_ok_iff.2
      ⟨classC_eq_ok_iff.2 ⟨h, congrArg _ (getLsbD_argBits_seten ch en)⟩, formEOk_argBits_seten ch en⟩

/-- What an accepting branch of the decoder answers: a command that a word can carry, with the word's three fields. -/
theorem decode_eq_ok {w : Word48} {i : Instr} (h : decode w = .ok i) :
    i.wellFormed = true ∧ i.opcode = opField w ∧ i.selBits = selField w ∧ i.argBits = argField w := by
  unfold decode at h
  split at h <;> rename_i hop
  case h_17 => cases h
  -- class C: SETFREQ, SETCH0, SETCH1, then SETEN
  case h_4 | h_6 | h_7 =>
    obtain ⟨hch, rfl⟩ := classC_eq_ok_iff.1 h
    exact ⟨hch, BitVec.eq_of_toNat_eq hop.symm, rfl, rfl⟩
  case h_5 =>
    obtain ⟨hclass, hform⟩ := checkArg_eq_ok_iff.1 h
    obtain ⟨hch, rfl⟩ := classC_eq_ok_iff.1 hclass
    exact ⟨hch, BitVec.eq_of_toNat_eq hop.symm, rfl, argBits_seten_of_formEOk _ hform⟩
  -- class N: SETMASK, then the rest
  case h_8 =>
    obtain ⟨hclass, hform⟩ := checkArg_eq_ok_iff.1 h
    obtain ⟨hsel, rfl⟩ := classN_eq_ok_iff.1 hclass
    exact ⟨rfl, BitVec.eq_of_toNat_eq hop.symm, hsel.symm, argBits_setmask_of_formMOk hform⟩
  all_goals
    obtain ⟨hsel, rfl⟩ := classN_eq_ok_iff.1 h
    exact ⟨rfl, BitVec.eq_of_toNat_eq hop.symm, hsel.symm, rfl⟩

/-- Settles O2: the decoder takes the branch of the command's opcode. -/
theorem encodedCommandDecodesToItself : Obligations.EncodedCommandDecodesToItself := fun _ => decode_encode

/-- Settles O3: a word is its three fields, which are the command's. -/
theorem decodedWordIsItsEncoding : Obligations.DecodedWordIsItsEncoding := by
  intro w i h
  obtain ⟨hwf, hop, hsel, harg⟩ := decode_eq_ok h
  exact ⟨hwf, by rw [encode, hop, hsel, harg, assemble_fields]⟩

/-! ### The legal words (R110) -/

/-- The words that decode are the legal ones: in each branch the conditions on `sel` and `arg` are R110's for its opcode. -/
theorem exists_decode_eq_ok_iff {w : Word48} : (∃ i, decode w = .ok i) ↔ LegalWord w := by
  unfold decode LegalWord
  split
  case h_17 => simp_all
  all_goals
    next hop =>
      simp [hop, classN_eq_ok_iff, classC_eq_ok_iff, checkArg_eq_ok_iff, channelOk_iff, formEOk_iff, formMOk_iff,
        ← BitVec.toNat_inj]

/-- The words that decode to the command of an opcode are the legal words of that `op`. -/
theorem exists_decode_opcode_iff {w : Word48} {op : Byte} :
    (∃ i, decode w = .ok i ∧ i.opcode = op) ↔ opField w = op ∧ LegalWord w := by
  rw [← exists_decode_eq_ok_iff]
  constructor
  · rintro ⟨i, hd, rfl⟩
    obtain ⟨-, hop, -, -⟩ := decode_eq_ok hd
    exact ⟨hop.symm, i, hd⟩
  · rintro ⟨rfl, i, hd⟩
    obtain ⟨-, hop, -, -⟩ := decode_eq_ok hd
    exact ⟨i, hd, hop⟩

/-- Settles O4: the words that decode are the legal ones, and what they decode to has their fields. -/
theorem decodingYieldsTheCommandOrIllegal : Obligations.DecodingYieldsTheCommandOrIllegal := by
  intro w
  cases hd : decode w with
  | ok i =>
    obtain ⟨-, hop, hsel, harg⟩ := decode_eq_ok hd
    exact .inl ⟨i, rfl, exists_decode_eq_ok_iff.1 ⟨i, hd⟩, hop, hsel, harg⟩
  | error e => exact .inr ⟨e, rfl, fun hlegal => by simpa [hd] using exists_decode_eq_ok_iff.2 hlegal⟩

/-! ### The opcode table (R118) -/

theorem eq_iff_fields {w v : Word48} :
    w = v ↔ opField w = opField v ∧ selField w = selField v ∧ argField w = argField v := by
  refine ⟨fun h => by simp [h], fun ⟨hop, hsel, harg⟩ => ?_⟩
  rw [← assemble_fields w, hop, hsel, harg, assemble_fields]

@[simp] theorem opField_and (w v : Word48) : opField (w &&& v) = opField w &&& opField v := BitVec.extractLsb'_and

@[simp] theorem selField_and (w v : Word48) : selField (w &&& v) = selField w &&& selField v := BitVec.extractLsb'_and

@[simp] theorem argField_and (w v : Word48) : argField (w &&& v) = argField w &&& argField v := BitVec.extractLsb'_and

/-- The bits from `k` up are zero exactly in the values below `2 ^ k`. -/
theorem and_allOnes_shiftLeft_eq_zero_iff {n : Nat} (x : BitVec n) (k : Nat) :
    x &&& (BitVec.allOnes n <<< k) = 0#n ↔ x.toNat < 2 ^ k := by
  have hmask : ∀ i, (BitVec.allOnes n <<< k).getLsbD i = (decide (k ≤ i) && decide (i < n)) := by
    intro i
    simp only [BitVec.getLsbD_shiftLeft, BitVec.getLsbD_allOnes]
    grind
  constructor
  · intro h
    refine Nat.lt_pow_two_of_testBit _ fun i hi => ?_
    rw [BitVec.testBit_toNat]
    by_cases hn : i < n
    · simpa [hmask, hi, hn, not_lt.2 hi] using congrArg (BitVec.getLsbD · i) h
    · exact x.getLsbD_of_ge i (not_lt.1 hn)
  · intro h
    refine BitVec.eq_of_getLsbD_eq fun i hi => ?_
    by_cases hk : k ≤ i
    · have hx : x.getLsbD i = false := Nat.testBit_lt_two_pow (h.trans_le (Nat.pow_le_pow_right (by decide) hk))
      simp [hx]
    · simp [hmask, hk]

theorem and_selMaskN_eq_zero_iff {sel : Sel} : sel &&& 0xFF#8 = 0#8 ↔ sel.toNat = 0 :=
  (and_allOnes_shiftLeft_eq_zero_iff sel 0).trans Nat.lt_one_iff

theorem and_selMaskC_eq_zero_iff {sel : Sel} : sel &&& 0xF8#8 = 0#8 ↔ sel.toNat < 8 :=
  and_allOnes_shiftLeft_eq_zero_iff sel 3

theorem and_formEMask_eq_zero_iff {arg : Arg} : arg &&& 0xFFFFFFFE#32 = 0#32 ↔ arg.toNat < 2 :=
  and_allOnes_shiftLeft_eq_zero_iff arg 1

theorem and_formMMask_eq_zero_iff {arg : Arg} : arg &&& 0xFFFFFFF0#32 = 0#32 ↔ arg.toNat < 16 :=
  and_allOnes_shiftLeft_eq_zero_iff arg 4

/-- A row of the opcode table, by its `op`, whether its class is C, and the mask of its `arg`: the whole of `op` is matched,
and the masked bits of `sel` and `arg` are zero. -/
def tableRow (op : Byte) (channel : Bool) (argMask : Arg) : Word48 × Word48 × Bool :=
  (assemble op 0#8 0#32, assemble 0xFF#8 (if channel then 0xF8#8 else 0xFF#8) argMask, channel)

theorem opcodeRows_eq :
    opcodeRows =
      [tableRow 0x01#8 false 0#32, tableRow 0x02#8 false 0#32, tableRow 0x03#8 false 0#32, tableRow 0x10#8 true 0#32,
        tableRow 0x11#8 true 0xFFFFFFFE#32, tableRow 0x12#8 true 0#32, tableRow 0x13#8 true 0#32,
        tableRow 0x20#8 false 0xFFFFFFF0#32, tableRow 0x21#8 false 0#32, tableRow 0x22#8 false 0#32,
        tableRow 0x23#8 false 0#32, tableRow 0x24#8 false 0#32, tableRow 0x25#8 false 0#32, tableRow 0x26#8 false 0#32,
        tableRow 0x27#8 false 0#32, tableRow 0x28#8 false 0#32] := by
  decide

theorem opField_tableRow (op : Byte) (channel : Bool) (argMask : Arg) : opField (tableRow op channel argMask).1 = op :=
  opField_assemble op _ _

/-- What a row asks of the three fields; the constraint `sel < 5` of class C goes beyond its mask, which is that of `sel < 8`. -/
theorem selects_tableRow_iff {w : Word48} {op : Byte} {channel : Bool} {argMask : Arg} :
    Selects w (tableRow op channel argMask) ↔
      opField w = op ∧ (if channel then (selField w).toNat < 5 else (selField w).toNat = 0) ∧
        argField w &&& argMask = 0#32 := by
  have hop : opField w &&& 0xFF#8 = opField w := BitVec.and_allOnes
  have hsel : (selField w).toNat < 8 ∧ (selField w).toNat < 5 ↔ (selField w).toNat < 5 := by omega
  cases channel with
  | false => simp [Selects, tableRow, eq_iff_fields, hop, and_selMaskN_eq_zero_iff]
  | true =>
    rw [if_pos rfl, ← hsel]
    simp [Selects, tableRow, eq_iff_fields, hop, and_selMaskC_eq_zero_iff, and_left_comm, and_comm]

/-- A word selects a row exactly when it is a legal word of the row's `op`: in each row, what the masks and the constraint
ask of `sel` and `arg` is what R110 asks for that `op`. -/
theorem selects_iff_legalWord {w : Word48} {row : Word48 × Word48 × Bool} (hrow : row ∈ opcodeRows) :
    Selects w row ↔ opField w = opField row.1 ∧ LegalWord w := by
  simp only [opcodeRows_eq, List.mem_cons, List.not_mem_nil, or_false] at hrow
  rcases hrow with rfl | rfl | rfl | rfl | rfl | rfl | rfl | rfl | rfl | rfl | rfl | rfl | rfl | rfl | rfl | rfl
  all_goals
    rw [selects_tableRow_iff, opField_tableRow]
    refine and_congr_right fun hop => ?_
    simp [LegalWord, hop, and_formEMask_eq_zero_iff, and_formMMask_eq_zero_iff]

theorem exists_row_of_opcode (i : Instr) : ∃ row ∈ opcodeRows, opField row.1 = i.opcode := by
  cases i <;> simp only [Instr.opcode] <;> decide

/-- Settles O5: to select a row and to decode to its command are both to be a legal word of its `op`. -/
theorem opcodeTableRowsSelectCommands : Obligations.OpcodeTableRowsSelectCommands := by
  intro w
  refine ⟨fun row hrow => (selects_iff_legalWord hrow).trans exists_decode_opcode_iff.symm, fun hnone => ?_⟩
  cases hd : decode w with
  | error e => exact ⟨e, rfl⟩
  | ok i =>
    obtain ⟨row, hrow, hop⟩ := exists_row_of_opcode i
    have hlegal := exists_decode_opcode_iff.1 ⟨i, hd, hop.symm⟩
    exact absurd ((selects_iff_legalWord hrow).2 hlegal) (hnone row hrow)

/-! ### Words and commands that do nothing (R112, R113) -/

/-- Settles O10: the step accepts the word the arbiter takes, and an ILLEGAL word leaves the state as it is. -/
theorem illegalWordIsAcceptedAndDoesNothing : Obligations.IllegalWordIsAcceptedAndDoesNothing := fun _ _ _ _ he =>
  ⟨Machine.acceptWord_of_error he _,
    fun hrun hr hc => (Machine.step_renderOnly hrun hr hc).trans (Machine.acceptWord_of_error he _),
    fun hrun hc hr => (Machine.step_controlOnly hrun hc hr).trans (Machine.acceptWord_of_error he _)⟩

/-- No word carries a command that is not well-formed. -/
theorem decode_ne_ok_of_not_wellFormed {i : Instr} (h : i.wellFormed = false) (w : Word48) : decode w ≠ .ok i := by
  intro hd
  obtain ⟨hwf, -⟩ := decode_eq_ok hd
  simp [h] at hwf

/-- Settles O24: a command without a channel is not well-formed, and `updChannel` has no channel to change. -/
theorem noSuchChannelChangesNothing : Obligations.NoSuchChannelChangesNothing := by
  intro ch hz en s hch
  have hnot : ¬ ch.toNat < Config.nch := not_lt.2 hch
  have hword {i : Instr} (hi : i.wellFormed = channelOk ch) (w : Word48) : decode w ≠ .ok i :=
    decode_ne_ok_of_not_wellFormed (hi.trans (decide_eq_false hnot)) w
  have hupd (f : Machine.Channel → Machine.Channel) : s.updChannel ch f = s := s.updChannel_of_not_lt f hnot
  exact ⟨fun w => ⟨hword rfl w, hword rfl w, hword rfl w, hword rfl w⟩,
    congrArg _ (hupd _), congrArg _ (hupd _), congrArg _ (hupd _), congrArg _ (hupd _)⟩

/-- Settles O1, by decoding the seventeen words. -/
theorem wordsOfTheRulesDecode : Obligations.WordsOfTheRulesDecode := by
  unfold Obligations.WordsOfTheRulesDecode
  decide
end Sys2Proof

namespace Sys2Proof.Machine

/-! ### The assembler (R116, R117) -/

/-- The exactness rule of R116 for a reading of the operand field as an integer that is in range and is undone by `ofInt`:
the multiples of 2^-16 in range are exactly the values read. -/
theorem exactOperand_eq_some_iff {lo hi : Int} {read : Arg → Int} (hread : ∀ a, lo ≤ read a ∧ read a ≤ hi)
    (hofInt : ∀ a, BitVec.ofInt 32 (read a) = a) (hinv : ∀ z, lo ≤ z → z ≤ hi → read (BitVec.ofInt 32 z) = z)
    (v : Val) (a : Arg) :
    (if (v * 65536).den = 1 ∧ lo ≤ (v * 65536).num ∧ (v * 65536).num ≤ hi then some (BitVec.ofInt 32 (v * 65536).num)
      else none) = some a ↔ (read a : Val) / 65536 = v := by
  rw [div_eq_iff (by norm_num), Option.ite_none_right_eq_some, Option.some_inj]
  constructor
  · rintro ⟨⟨hden, hlo, hhi⟩, rfl⟩
    rw [hinv _ hlo hhi]
    exact (Rat.den_eq_one_iff _).1 hden
  · intro h
    obtain ⟨hlo, hhi⟩ := hread a
    rw [← h, Rat.num_intCast, Rat.den_intCast]
    exact ⟨⟨rfl, hlo, hhi⟩, hofInt a⟩

/-- A `q` operand reads as a signed integer (R104). -/
theorem asmQ_eq_some_iff (v : Val) (a : Arg) : asmQ v = some a ↔ formQ a = v :=
  exactOperand_eq_some_iff (fun a => ⟨a.le_toInt, Int.le_of_lt_add_one a.toInt_lt⟩) (fun _ => BitVec.ofInt_toInt)
    (fun _ hlo hhi => BitVec.toInt_ofInt_eq_self (by decide) hlo (Int.lt_add_one_of_le hhi)) v a

/-- A stamp reads as an unsigned integer (R105). -/
theorem asmSeconds_eq_some_iff (v : Val) (a : Arg) : asmSeconds v = some a ↔ (a.toNat : Val) / 65536 = v :=
  exactOperand_eq_some_iff (read := fun a => (a.toNat : Int)) (fun a => ⟨by omega, by omega⟩) (fun a => by simp)
    (fun z hlo hhi => by simp; omega) v a

/-- Settles O7: both operand kinds follow the one exactness rule, the one read signed and the other unsigned. -/
theorem assemblerOperandsAreExact : Obligations.AssemblerOperandsAreExact := ⟨asmQ_eq_some_iff, asmSeconds_eq_some_iff⟩

/-- Settles O8, by assembling the lines. -/
theorem assemblerReadsTheRulesLines : Obligations.AssemblerReadsTheRulesLines := by
  unfold Obligations.AssemblerReadsTheRulesLines
  decide +kernel

theorem clampNonneg_formQ (arg : Arg) :
    clampNonneg (formQ arg) = if arg.toInt < 0 then 0 else (arg.toInt : Val) / 65536 := by
  simp only [clampNonneg, formQ_neg_iff]
  rfl

/-- A stamp has not elapsed since itself. -/
theorem State.elapsed_of_envStart_eq {s : State} {now : Arg} (h : s.envStart = now) : s.elapsed now = 0 := by
  simp [State.elapsed, h]

/-- With no attack, the release starts at full volume (R182). -/
theorem envelopeAt_zero {release : Val} (h : 0 < release) : envelopeAt 0 release 0 = 1 := by
  simp [envelopeAt, h.ne', clamp]

/-- The expansion of FORCEVOL1 is a TICK at the stamp of the NOTEON, with the attack at 0. -/
theorem execAll_forcevol1 (now : Arg) (s : State) :
    execAll (Pseudo.forcevol1 now).expand s = .next (State.tick 0 { s with attack := 0, envStart := now }) := by
  have hattack : clampNonneg (formQ 0#32) = 0 := by simp [clampNonneg_formQ]
  have helapsed : State.elapsed now { s with attack := 0, envStart := now } = 0 := State.elapsed_of_envStart_eq rfl
  simp only [Pseudo.expand, execAll, exec, execSetatk, execNoteon, execTick, hattack, helapsed]

/-- The expansion of SETCH writes frequency and enable bit of the channel. -/
theorem execAll_setch (ch : Sel) (en : Bool) (hz : Arg) (s : State) :
    execAll (Pseudo.setch ch en hz).expand s = .next (s.updChannel ch fun c => (c.withFreq hz).withEn en) := by
  cases en <;> rfl

/-- Settles O41: after FORCEVOL1's first two commands no time has elapsed and `ATTACK` is 0; SETCH's command is the joint
one of its bit. -/
theorem pseudoCommandsDoWhatTheyName : Obligations.PseudoCommandsDoWhatTheyName := by
  refine ⟨fun now s hrel => ⟨_, execAll_forcevol1 now s, envelopeAt_zero hrel, rfl, rfl⟩, fun ch en hz s hch => ?_⟩
  rw [execAll_setch, State.updChannel_of_lt _ s hch]
  simp only [Channel.withFreq, Channel.withEn, clampNonneg_formQ]

end Sys2Proof.Machine
end

section
/-! PROOFS. Family 40_datapath_functions: phases count modulo whole turns (R132 to R135), the generators' formulas and ranges
(R136 to R139), the harmonic amplitudes (R142), and the bounds from a wave to the mix (R140, R144). -/

namespace Sys2Proof.Machine

/-! ### Phases that differ by whole turns (R130 to R135)

Every datapath function reads its phase through `frac`, so each has one lemma: equal `frac`s give equal values. -/

theorem frac_frac (t : Val) : frac (frac t) = frac t := Int.fract_fract t

/-- Multiples of phases that agree up to whole turns agree up to whole turns: harmonic `k` repeats with its fundamental. -/
theorem frac_natCast_mul_congr {t u : Val} (h : frac t = frac u) (n : Nat) : frac (n * t) = frac (n * u) := by
  obtain ⟨z, hz⟩ := Int.fract_eq_fract.1 h
  exact Int.fract_eq_fract.2 ⟨n * z, by rw [← mul_sub, hz]; push_cast; rfl⟩

section
variable {t u : Val} (h : frac t = frac u)
include h

theorem index_congr (size : Nat) : index t size = index u size := by rw [index, index, h]

theorem sinT_congr : sinT t = sinT u := congrArg sinRom (index_congr h Config.nSin)

theorem genSquare_congr (duty : Val) : genSquare t duty = genSquare u duty := by rw [genSquare, genSquare, h]

theorem genSaw_congr : genSaw t = genSaw u := by rw [genSaw, genSaw, h]

theorem genTri_congr : genTri t = genTri u := by rw [genTri, genTri, h]

theorem wave_congr (mask : BitVec 4) (duty : Val) : wave t mask duty = wave u mask duty := by
  rw [wave, wave, genSine, genSine, sinT_congr h, genSquare_congr h, genSaw_congr h, genTri_congr h]

theorem harmonicTerm_congr (mask : BitVec 4) (duty : Val) (hamp : List Val) (k : Nat) :
    harmonicTerm t mask duty hamp k = harmonicTerm u mask duty hamp k := by
  have hk : frac (((k : Val) + 1) * t) = frac (((k : Val) + 1) * u) := by exact_mod_cast frac_natCast_mul_congr h (k + 1)
  rw [harmonicTerm, harmonicTerm, wave_congr hk]

theorem waveHarmonics_congr (mask : BitVec 4) (duty : Val) (hcount : Nat) (hamp : List Val) :
    waveHarmonics t mask duty hcount hamp = waveHarmonics u mask duty hcount hamp :=
  congrArg (fun f => ((List.range hcount).map f).sum) (funext (harmonicTerm_congr h mask duty hamp))

end

/-- The cosine's argument is scaled to turns, so its period is `1 / INV_TWO_PI` (R134). -/
theorem cosR_add_period (x : Val) (k : Int) : cosR (x + k * (1073741824 / 170891319)) = cosR x := by
  have harg : (x + k * (1073741824 / 170891319)) * invTwoPi = x * invTwoPi + k := by
    unfold invTwoPi
    ring
  have hfrac : frac ((x + k * (1073741824 / 170891319)) * invTwoPi) = frac (x * invTwoPi) := by
    rw [harg, frac_add_int]
  exact congrArg cosRom (index_congr hfrac Config.mCos)

/-- Settles O43: a whole turn added, or `frac` applied, leaves `frac` of the phase; the cosine's period is a turn of its scaled
argument. -/
theorem lookupsAndGeneratorsArePeriodic : Obligations.LookupsAndGeneratorsArePeriodic := by
  intro t duty k mask hcount hamp
  have h : frac (t + k) = frac t := frac_add_int t k
  exact ⟨sinT_congr h, sinT_congr h, genSquare_congr h duty, genSaw_congr h, genTri_congr h, wave_congr h mask duty,
    waveHarmonics_congr h mask duty hcount hamp, waveHarmonics_congr (frac_frac t) mask duty hcount hamp,
    cosR_add_period t k⟩

/-! ### The generators (R136 to R139) -/

theorem genSquare_of_lt {t duty : Val} (h : frac t < duty) : genSquare t duty = 1 := if_pos h

theorem genSquare_of_le {t duty : Val} (h : duty ≤ frac t) : genSquare t duty = -1 := if_neg h.not_gt

theorem genTri_of_lt {t : Val} (h : frac t < 1 / 2) : genTri t = 4 * frac t - 1 := if_pos h

theorem genTri_of_le {t : Val} (h : 1 / 2 ≤ frac t) : genTri t = -4 * frac t + 3 := if_neg h.not_gt

/-- Both branches of the triangle in one formula: a peak of height 1 at the half turn (R139). -/
theorem genTri_eq_one_sub_abs (t : Val) : genTri t = 1 - |4 * frac t - 2| := by
  obtain h | h := lt_or_ge (frac t) (1 / 2)
  · rw [genTri_of_lt h, abs_of_neg (by linarith)]
    ring
  · rw [genTri_of_le h, abs_of_nonneg (by linarith)]
    ring

theorem genTri_eq_neg_one_iff (t : Val) : genTri t = -1 ↔ frac t = 0 := by
  have hlt := frac_lt_one t
  rw [genTri_eq_one_sub_abs]
  constructor
  · intro h
    have habs : |4 * frac t - 2| = 2 := by linarith
    obtain h | h := (abs_eq zero_le_two).1 habs <;> linarith
  · intro h
    norm_num [h]

theorem genTri_eq_one_iff (t : Val) : genTri t = 1 ↔ frac t = 1 / 2 := by
  rw [genTri_eq_one_sub_abs, sub_eq_self, abs_eq_zero]
  exact ⟨fun h => by linarith, fun h => by linarith⟩

theorem genTri_eq_zero_iff (t : Val) : genTri t = 0 ↔ frac t = 1 / 4 ∨ frac t = 3 / 4 := by
  rw [genTri_eq_one_sub_abs, sub_eq_zero, eq_comm, abs_eq zero_le_one, or_comm]
  exact or_congr ⟨fun h => by linarith, fun h => by linarith⟩ ⟨fun h => by linarith, fun h => by linarith⟩

theorem abs_genSine_le (t : Val) : |genSine t| ≤ 1 := abs_le.2 (sinT_mem t)

theorem abs_genSquare_le (t duty : Val) : |genSquare t duty| ≤ 1 := by
  obtain h | h := lt_or_ge (frac t) duty
  · rw [genSquare_of_lt h, abs_one]
  · rw [genSquare_of_le h, abs_neg, abs_one]

theorem genSaw_mem (t : Val) : -1 ≤ genSaw t ∧ genSaw t < 1 := by
  have h0 := frac_nonneg t
  have h1 := frac_lt_one t
  unfold genSaw
  constructor <;> linarith

theorem abs_genSaw_le (t : Val) : |genSaw t| ≤ 1 := abs_le.2 ⟨(genSaw_mem t).1, (genSaw_mem t).2.le⟩

theorem abs_genTri_le (t : Val) : |genTri t| ≤ 1 := by
  have h0 := frac_nonneg t
  have h1 := frac_lt_one t
  have hhi : |4 * frac t - 2| ≤ 2 := abs_le.2 ⟨by linarith, by linarith⟩
  have hlo := abs_nonneg (4 * frac t - 2)
  rw [genTri_eq_one_sub_abs]
  exact abs_le.2 ⟨by linarith, by linarith⟩

/-- Settles O44: the square and the triangle by their two branches, the triangle's special values by its one formula. -/
theorem generatorsStayInTheirRanges : Obligations.GeneratorsStayInTheirRanges := by
  intro t duty
  obtain ⟨hsineLo, hsineHi⟩ := abs_le.1 (abs_genSine_le t)
  obtain ⟨hsawLo, hsawHi⟩ := genSaw_mem t
  obtain ⟨htriLo, htriHi⟩ := abs_le.1 (abs_genTri_le t)
  exact ⟨⟨rfl, hsineLo, hsineHi⟩,
    ⟨genSquare_of_lt, genSquare_of_le, genSquare_of_le (frac_nonneg t), genSquare_of_lt (frac_lt_one t)⟩,
    ⟨rfl, hsawLo, hsawHi⟩,
    ⟨genTri_of_lt, genTri_of_le, htriLo, htriHi, genTri_eq_neg_one_iff t, genTri_eq_one_iff t, genTri_eq_zero_iff t⟩⟩

/-! ### The harmonic amplitudes (R142) -/

/-- Every read of the array is in [-1, 1], those past its end included, as they give 0 (log 6). -/
theorem abs_hampOf_getD_le (h : Val) (k : Nat) : |(hampOf h).getD k 0| ≤ 1 := by
  obtain hk | hk := lt_or_ge k 8
  · rw [hampOf_getD h hk]
    exact abs_le.2 (cosR_mem _)
  · rw [List.getD_eq_default _ _ (by simpa using hk), abs_zero]
    exact zero_le_one

theorem cosR_zero : cosR 0 = 1 := by
  have hindex : index (0 * invTwoPi) Config.mCos = 0 := by simp [index_eq_floor, frac_eq_fract]
  rw [cosR, hindex, cosRom_zero]

theorem hampOf_getD_zero (h : Val) : (hampOf h).getD 0 0 = 1 := by
  rw [hampOf_getD h (by decide), Nat.cast_zero, zero_mul, zero_add, cosR_zero]

/-- Settles O45: the entries are cosine lookups, and the fundamental's has argument 0 whatever the offset. -/
theorem fundamentalAmplitudeIsOne : Obligations.FundamentalAmplitudeIsOne := fun h =>
  ⟨hampOf_length h, hampOf_getD_zero h, fun k hk => ⟨hampOf_getD h hk, abs_le.1 (abs_hampOf_getD_le h k)⟩⟩

/-! ### Bounds from a generator's term to the mix (R140, R144) -/

/-- A term of a wave is at most the generator's weight. -/
theorem abs_gated_mul_le (on : Bool) {w g : Val} (hw : 0 ≤ w) (hg : |g| ≤ 1) : |gated on (w * g)| ≤ w := by
  cases on with
  | false => simpa [gated] using hw
  | true =>
    rw [gated, if_pos rfl, abs_mul, abs_of_nonneg hw]
    exact mul_le_of_le_one_right hw hg

/-- The four weights together bound a wave (R140). -/
theorem abs_wave_le (t : Val) (mask : BitVec 4) (duty : Val) : |wave t mask duty| ≤ 43 / 20 := by
  have hsine := abs_gated_mul_le (sineOn mask) (w := wSine) (by norm_num [wSine]) (abs_genSine_le t)
  have hsquare := abs_gated_mul_le (squareOn mask) (w := wSquare) (by norm_num [wSquare]) (abs_genSquare_le t duty)
  have hsaw := abs_gated_mul_le (sawOn mask) (w := wSaw) (by norm_num [wSaw]) (abs_genSaw_le t)
  have htri := abs_gated_mul_le (triOn mask) (w := wTri) (by norm_num [wTri]) (abs_genTri_le t)
  have hweights : wSine + wSquare + wSaw + wTri = 43 / 20 := by norm_num [wSine, wSquare, wSaw, wTri]
  rw [← hweights, wave]
  refine (abs_add_le _ _).trans (add_le_add ?_ htri)
  exact (abs_add_three _ _ _).trans (add_le_add (add_le_add hsine hsquare) hsaw)

theorem abs_harmonicTerm_le (t : Val) (mask : BitVec 4) (duty h : Val) (k : Nat) :
    |harmonicTerm t mask duty (hampOf h) k| ≤ 43 / 20 * (3 / 4) ^ k := by
  rw [harmonicTerm, decayPow_eq_pow, abs_mul, abs_mul, abs_of_nonneg (by positivity : (0 : Val) ≤ (3 / 4) ^ k)]
  gcongr
  calc |wave (((k : Val) + 1) * t) mask duty| * |(hampOf h).getD k 0|
      ≤ 43 / 20 * 1 := by
        gcongr
        · exact abs_wave_le _ mask duty
        · exact abs_hampOf_getD_le h k
    _ = 43 / 20 := mul_one _

theorem waveHarmonics_eq_sum (t : Val) (mask : BitVec 4) (duty : Val) (hcount : Nat) (hamp : List Val) :
    waveHarmonics t mask duty hcount hamp = ∑ k ∈ Finset.range hcount, harmonicTerm t mask duty hamp k := rfl

theorem abs_waveHarmonics_le (t : Val) (mask : BitVec 4) (duty : Val) (hcount : Nat) (h : Val) :
    |waveHarmonics t mask duty hcount (hampOf h)| ≤ 43 / 20 * ∑ k ∈ Finset.range hcount, (3 / 4 : Val) ^ k := by
  rw [waveHarmonics_eq_sum, Finset.mul_sum]
  calc |∑ k ∈ Finset.range hcount, harmonicTerm t mask duty (hampOf h) k|
      ≤ ∑ k ∈ Finset.range hcount, |harmonicTerm t mask duty (hampOf h) k| := Finset.abs_sum_le_sum_abs _ _
    _ ≤ ∑ k ∈ Finset.range hcount, 43 / 20 * (3 / 4) ^ k :=
        Finset.sum_le_sum fun k _ => abs_harmonicTerm_le t mask duty h k

/-- Finitely many decays stay below their limit 4 (R144). -/
theorem sum_decay_lt (n : Nat) : 43 / 20 * ∑ k ∈ Finset.range n, (3 / 4 : Val) ^ k < 43 / 5 := by
  have hpow : (0 : Val) < (3 / 4) ^ n := by positivity
  have hsum : ∑ k ∈ Finset.range n, (3 / 4 : Val) ^ k = 4 * (1 - (3 / 4) ^ n) := by
    rw [geom_sum_eq (by norm_num)]
    ring
  rw [hsum]
  linarith

theorem State.mix_eq_sum (s : State) (i : Nat) :
    s.mix i = ∑ c : Fin Config.nch, s.voice (hampOf s.hoffset) i s.channels[c] := by
  have hlist : s.channels.toList = List.ofFn fun c : Fin Config.nch => s.channels[c] :=
    List.ext_getElem (by simp) fun c _ _ => by simp only [Vector.getElem_toList, List.getElem_ofFn, Fin.getElem_fin]
  rw [State.mix, hlist, List.map_ofFn, List.sum_ofFn]
  rfl

/-- What a channel adds to the mix is below 43/5 in magnitude, a disabled channel's 0 too. -/
theorem State.abs_voice_lt (s : State) (h : Val) (i : Nat) (c : Channel) : |s.voice (hampOf h) i c| < 43 / 5 := by
  unfold State.voice
  split
  · exact (abs_waveHarmonics_le _ _ _ _ _).trans_lt (sum_decay_lt _)
  · norm_num

theorem State.abs_mix_lt (s : State) (i : Nat) : |s.mix i| < 43 := by
  rw [State.mix_eq_sum]
  calc |∑ c : Fin Config.nch, s.voice (hampOf s.hoffset) i s.channels[c]|
      ≤ ∑ c : Fin Config.nch, |s.voice (hampOf s.hoffset) i s.channels[c]| := Finset.abs_sum_le_sum_abs _ _
    _ < ∑ _c : Fin Config.nch, (43 / 5 : Val) :=
        Finset.sum_lt_sum_of_nonempty Finset.univ_nonempty fun c _ => s.abs_voice_lt _ i _
    _ = 43 := by norm_num

/-- Settles O46: each level's bound follows from the one below it, and the channels' from the decays' limit. -/
theorem mixIsBelowFortyThree : Obligations.MixIsBelowFortyThree :=
  ⟨fun t duty mask => abs_wave_le t mask duty,
    fun t duty mask hcount h => ⟨abs_waveHarmonics_le t mask duty hcount h, sum_decay_lt hcount⟩,
    State.abs_mix_lt⟩

end Sys2Proof.Machine
end


section
/-! PROOFS. Family 41_render: the dry mix (R161 to R164), what the sample loop leaves in the sample port, `RB` and `CURSOR` (R165,
R166), the phases it leaves (R167, R170, R171), and why two RENDERs are one (R169). -/

namespace Sys2Proof.Machine

/-! ### The dry mix (R164) -/

theorem State.voice_of_enabled {c : Channel} (h : c.en = true) (s : State) (hamp : List Val) (i : Nat) :
    s.voice hamp i c = waveHarmonics (s.phi c i) s.wmask s.duty s.hcount hamp := if_pos h

theorem State.voice_of_disabled {c : Channel} (h : c.en = false) (s : State) (hamp : List Val) (i : Nat) :
    s.voice hamp i c = 0 := if_neg (by simp [h])

/-- R143 with the amplitude array's entries put in, which are read below 8 only. -/
theorem waveHarmonics_hampOf {hcount : Nat} (h : hcount ≤ 8) (t : Val) (mask : BitVec 4) (duty hoffset : Val) :
    waveHarmonics t mask duty hcount (hampOf hoffset) =
      ∑ k ∈ Finset.range hcount, wave ((k + 1) * t) mask duty * cosR (k * hoffset + k) * (3 / 4 : Val) ^ k := by
  rw [waveHarmonics_eq_sum]
  refine Finset.sum_congr rfl fun k hk => ?_
  rw [harmonicTerm, hampOf_getD hoffset ((Finset.mem_range.1 hk).trans_le h), decayPow_eq_pow]

/-- Settles O47: the mix is a sum over the channels, and an enabled channel's term a sum over its harmonics. -/
theorem dryMixIsTheSumOverEnabledChannels : Obligations.DryMixIsTheSumOverEnabledChannels := by
  intro s i hh
  rw [State.mix_eq_sum, mixOfTheRules]
  refine Finset.sum_congr rfl fun c _ => ?_
  rw [State.voice, waveHarmonics_hampOf hh]
  rfl

/-- Disabling a channel takes its own term out of the mix and leaves the others'. -/
theorem State.mix_eq_mix_disabled_add_voice (s : State) (c : Fin Config.nch) (i : Nat) :
    s.mix i =
      State.mix { s with channels := s.channels.set c { s.channels[c] with en := false } } i +
        s.voice (hampOf s.hoffset) i s.channels[c] := by
  rw [State.mix_eq_sum, State.mix_eq_sum, ← sub_eq_iff_eq_add', ← Finset.sum_sub_distrib]
  refine (Fintype.sum_eq_single c fun d hd => ?_).trans ?_
  · have hget : (s.channels.set c { s.channels[c] with en := false })[d] = s.channels[d] :=
      Vector.getElem_set_ne _ _ fun h => hd (Fin.ext h.symm)
    rw [hget]
    exact sub_self _
  · have hget : (s.channels.set c { s.channels[c] with en := false })[c] = { s.channels[c] with en := false } :=
      Vector.getElem_set_self _
    rw [hget, State.voice_of_disabled (c := { s.channels[c] with en := false }) rfl, sub_zero]

/-! ### The sample loop (R165, R166) -/

theorem State.renderLoop_succ_last (mixes : Nat → Val) (n : Nat) (s : State) :
    s.renderLoop mixes (n + 1) 0 = (s.renderLoop mixes n 0).renderSample (mixes n) := by
  rw [State.renderLoop_add, Nat.zero_add]
  rfl

theorem State.renderLoop_cursor {s : State} (hc : s.cursor < s.rlen) (mixes : Nat → Val) (n : Nat) :
    (s.renderLoop mixes n 0).cursor = (s.cursor + n) % s.rlen := by
  induction n with
  | zero => exact (Nat.mod_eq_of_lt hc).symm
  | succ n ih =>
    rw [State.renderLoop_succ_last, State.renderSample_cursor, State.renderLoop_rlen, ih, Nat.mod_add_mod, Nat.add_assoc]

theorem State.wf_rb_renderLoop {s : State} (hwf : Memory.wf s.rb) (mixes : Nat → Val) (n : Nat) :
    Memory.wf (s.renderLoop mixes n 0).rb :=
  State.renderLoop_induct (P := fun t => Memory.wf t.rb) (fun m t h => Memory.wf_write h t.cursor m) mixes n 0 hwf

/-- One more sample writes the slot of its own index and no other (R166). -/
theorem State.read_rb_renderLoop_succ {s : State} (hc : s.cursor < s.rlen) (hwf : Memory.wf s.rb) (mixes : Nat → Val)
    (n j : Nat) :
    Memory.read j (s.renderLoop mixes (n + 1) 0).rb =
      if j = (s.cursor + n) % s.rlen then mixes n else Memory.read j (s.renderLoop mixes n 0).rb := by
  rw [State.renderLoop_succ_last, State.renderSample_rb, Memory.read_write (State.wf_rb_renderLoop hwf mixes n),
    State.renderLoop_cursor hc]

theorem State.read_rb_renderLoop_of_rlen_le {s : State} (hc : s.cursor < s.rlen) (hwf : Memory.wf s.rb)
    (mixes : Nat → Val) (n : Nat) {j : Nat} (hj : s.rlen ≤ j) :
    Memory.read j (s.renderLoop mixes n 0).rb = Memory.read j s.rb := by
  induction n with
  | zero => rfl
  | succ n ih =>
    have hslot : (s.cursor + n) % s.rlen < s.rlen := Nat.mod_lt _ (Nat.zero_lt_of_lt hc)
    rw [State.read_rb_renderLoop_succ hc hwf, if_neg (by omega), ih]

/-- After `n` samples the slot that sample `i` will be the next to use holds what its last user stored, the sample `RLEN`
before `i`, or what it held at the start when there was no such sample. Every slot is that of one `i` in `[n, n + RLEN)`. -/
theorem State.read_rb_renderLoop_next {s : State} (hc : s.cursor < s.rlen) (hwf : Memory.wf s.rb) (mixes : Nat → Val)
    (n : Nat) {i : Nat} (hlo : n ≤ i) (hhi : i < n + s.rlen) :
    Memory.read ((s.cursor + i) % s.rlen) (s.renderLoop mixes n 0).rb =
      if i < s.rlen then Memory.read ((s.cursor + i) % s.rlen) s.rb else mixes (i - s.rlen) := by
  induction n with
  | zero => rw [if_pos (by omega), State.renderLoop_zero]
  | succ n ih =>
    rw [State.read_rb_renderLoop_succ hc hwf]
    obtain rfl | hne := eq_or_ne i (n + s.rlen)
    · rw [← Nat.add_assoc, Nat.add_mod_right, if_pos rfl, if_neg (by omega), Nat.add_sub_cancel]
    · have hslot : (s.cursor + i) % s.rlen ≠ (s.cursor + n) % s.rlen := by
        intro h
        have hdvd := (Nat.modEq_iff_dvd' (by omega)).1 h.symm
        have := Nat.le_of_dvd (by omega) hdvd
        omega
      rw [if_neg hslot, ih (by omega) (by omega)]

theorem State.out_renderLoop {s : State} (hc : s.cursor < s.rlen) (hwf : Memory.wf s.rb) (mixes : Nat → Val) (n : Nat) :
    (s.renderLoop mixes n 0).out =
      s.out ++ (List.range n).map fun i =>
        mixes i * s.volume +
          1 / 2 * (if i < s.rlen then Memory.read ((s.cursor + i) % s.rlen) s.rb else mixes (i - s.rlen)) := by
  induction n with
  | zero => simp
  | succ n ih =>
    have hecho := State.read_rb_renderLoop_next hc hwf mixes n (le_refl n) (by omega)
    rw [State.renderLoop_succ_last, State.renderSample_out, State.outSample, State.echo, State.renderLoop_cursor hc, hecho,
      State.renderLoop_volume, ih, List.range_succ, List.map_append, List.append_assoc]
    rfl

/-- The first sample that uses slot `j`, counted from a cursor at `cursor`, does use it. -/
theorem add_firstUse_mod {cursor rlen j : Nat} (hc : cursor < rlen) (hj : j < rlen) :
    (cursor + (j + rlen - cursor) % rlen) % rlen = j := by
  rw [Nat.add_mod_mod, show cursor + (j + rlen - cursor) = j + rlen by omega, Nat.add_mod_right, Nat.mod_eq_of_lt hj]

/-- What the loop leaves at any index, by the first sample that uses it (R166). -/
theorem State.read_rb_renderLoop {s : State} (hc : s.cursor < s.rlen) (hwf : Memory.wf s.rb) (mixes : Nat → Val)
    (n j : Nat) :
    Memory.read j (s.renderLoop mixes n 0).rb =
      if s.rlen ≤ j then Memory.read j s.rb
      else if (j + s.rlen - s.cursor) % s.rlen < n then
        mixes ((j + s.rlen - s.cursor) % s.rlen + s.rlen * ((n - 1 - (j + s.rlen - s.cursor) % s.rlen) / s.rlen))
      else Memory.read j s.rb := by
  split
  · next hj => exact State.read_rb_renderLoop_of_rlen_le hc hwf mixes n hj
  next hj =>
  have hslot := add_firstUse_mod hc (not_le.1 hj)
  have hlt := Nat.mod_lt (j + s.rlen - s.cursor) (Nat.zero_lt_of_lt hc)
  generalize (j + s.rlen - s.cursor) % s.rlen = first at hslot hlt ⊢
  split
  · next hreached =>
    have hlapsLe := Nat.mul_div_le (n - 1 - first) s.rlen
    have hlapsLt := Nat.lt_mul_div_succ (n - 1 - first) (Nat.zero_lt_of_lt hc)
    rw [Nat.mul_succ] at hlapsLt
    generalize (n - 1 - first) / s.rlen = laps at hlapsLe hlapsLt ⊢
    have hnext := State.read_rb_renderLoop_next hc hwf mixes n (i := first + s.rlen * laps + s.rlen) (by omega) (by omega)
    rw [if_neg (by omega), Nat.add_sub_cancel, ← Nat.add_assoc, Nat.add_mod_right, ← Nat.add_assoc,
      Nat.add_mul_mod_self_left, hslot] at hnext
    exact hnext
  · next hreached =>
    have hnext := State.read_rb_renderLoop_next hc hwf mixes n (not_lt.1 hreached) (by omega)
    rwa [if_pos hlt, hslot] at hnext

/-! ### The phases (R163, R167) -/

theorem State.phaseAfter_of_enabled {c : Channel} (h : c.en = true) (s : State) (len : Nat) :
    s.phaseAfter len c = { c with pp := frac (s.phi c len) } := if_pos h

theorem State.phaseAfter_of_disabled {c : Channel} (h : c.en = false) (s : State) (len : Nat) :
    s.phaseAfter len c = c := if_neg (by simp [h])

@[simp] theorem State.phaseAfter_en (s : State) (len : Nat) (c : Channel) : (s.phaseAfter len c).en = c.en := by
  unfold State.phaseAfter
  split <;> rfl

@[simp] theorem State.phi_zero (s : State) (c : Channel) : s.phi c 0 = c.pp := by simp [State.phi]

/-- A channel's phases run on from what a RENDER leaves in it, up to whole turns (R169). -/
theorem State.frac_phi_phaseAfter {c : Channel} (h : c.en = true) (s : State) (a b : Nat) :
    frac (s.phi (s.phaseAfter a c) b) = frac (s.phi c (a + b)) := by
  obtain ⟨k, hk⟩ := exists_frac_eq_sub (s.phi c a)
  have hphi : s.phi (s.phaseAfter a c) b = s.phi c (a + b) + ((-k : Int) : Val) := by
    rw [State.phaseAfter_of_enabled h, State.phi, hk]
    simp only [State.phi, State.delta]
    push_cast
    ring
  rw [hphi, frac_add_int]

theorem State.phaseAfter_phaseAfter (s : State) (a b : Nat) (c : Channel) :
    s.phaseAfter b (s.phaseAfter a c) = s.phaseAfter (a + b) c := by
  cases h : c.en with
  | false => simp only [State.phaseAfter_of_disabled h]
  | true =>
    rw [State.phaseAfter_of_enabled (by simpa using h), State.frac_phi_phaseAfter h, State.phaseAfter_of_enabled h,
      State.phaseAfter_of_enabled h]

theorem State.voice_phaseAfter (s : State) (hamp : List Val) (a i : Nat) (c : Channel) :
    s.voice hamp i (s.phaseAfter a c) = s.voice hamp (a + i) c := by
  cases h : c.en with
  | false => rw [State.voice_of_disabled (by simpa using h), State.voice_of_disabled h]
  | true =>
    rw [State.voice_of_enabled (by simpa using h), State.voice_of_enabled h]
    exact waveHarmonics_congr (s.frac_phi_phaseAfter h a i) _ _ _ _

/-- Step D leaves a channel as it is when its phase has not moved and is in [0, 1) (R171, R172). -/
theorem State.phaseAfter_of_phi_eq {s : State} {c : Channel} {len : Nat} (h : s.phi c len = c.pp) (h0 : 0 ≤ c.pp)
    (h1 : c.pp < 1) : s.phaseAfter len c = c := by
  unfold State.phaseAfter
  split
  · rw [h, frac_of_unit h0 h1]
  · rfl

/-! ### RENDER (R160) -/

theorem exec_render_next {s : State} (len : Arg) (hc : s.cursor < s.rlen) (hh : s.hcount ≤ 8) :
    exec (.render len) s = .next (s.render len.toNat) := execRender_next len hc hh

/-- RENDER is the sample loop with the phases of the channels it started with written back. -/
theorem State.render_eq (len : Nat) (s : State) :
    s.render len = { s.renderLoop s.mix len 0 with channels := s.channels.map (s.phaseAfter len) } := by
  rw [State.render, State.renderLoop_frame]
  rfl

theorem State.render_getElem (s : State) (len : Nat) {c : Nat} (h : c < Config.nch) :
    (s.render len).channels[c] = s.phaseAfter len s.channels[c] := by
  rw [State.render_eq]
  exact Vector.getElem_map _ h

/-- Settles O48: the loop's samples, with the mixes of the state RENDER started in. -/
theorem renderEmitsMixPlusHalfTheEcho : Obligations.RenderEmitsMixPlusHalfTheEcho := fun len s hc hh hwf =>
  ⟨_, exec_render_next len hc hh, State.out_renderLoop hc hwf s.mix len.toNat⟩

/-- Settles O49: the frame, the phases of step D, and the loop's buffer. -/
theorem renderLeavesPhasesBufferAndCursor : Obligations.RenderLeavesPhasesBufferAndCursor := by
  intro len s hc hh hwf
  refine ⟨_, exec_render_next len hc hh, ?_, fun c => ?_, State.read_rb_renderLoop hc hwf s.mix len.toNat⟩
  · rw [← State.renderLoop_cursor hc s.mix len.toNat, State.render_eq, State.renderLoop_frame]
  · exact s.render_getElem len.toNat c.isLt

/-- Settles O51: no sample is produced, and `PP` is in [0, 1) already (R45). -/
theorem renderOfLengthZeroChangesNothing : Obligations.RenderOfLengthZeroChangesNothing := by
  intro s hs
  have hchannels : s.channels.map (s.phaseAfter 0) = s.channels := by
    refine Vector.ext fun c hc => ?_
    have hinv := hs.channels s.channels[c] (Vector.mem_toList_iff.2 (Vector.getElem_mem hc))
    rw [Vector.getElem_map, State.phaseAfter_of_phi_eq (s.phi_zero _) hinv.pp_nonneg hinv.pp_lt_one]
  refine (exec_render_next 0#32 hs.cursor hs.hcount_le).trans ?_
  rw [State.render_eq]
  exact congrArg (fun channels => Host.Outcome.next { s with channels := channels }) hchannels

/-! ### One RENDER after another (R169) -/

/-- A channel's term reads nothing that RENDER writes, but for the channel itself. -/
theorem State.voice_render (s : State) (a : Nat) : (s.render a).voice = s.voice := by
  rw [State.render_eq, State.renderLoop_frame]
  rfl

/-- The mixes after a RENDER go on where its own stopped (R169). -/
theorem State.mix_render (s : State) (a i : Nat) : (s.render a).mix i = s.mix (a + i) := by
  have hhoffset : (s.render a).hoffset = s.hoffset := State.renderLoop_hoffset s.mix a 0 s
  rw [State.mix_eq_sum, State.mix_eq_sum, State.voice_render, hhoffset]
  refine Finset.sum_congr rfl fun c _ => ?_
  rw [Fin.getElem_fin, State.render_getElem s a c.isLt]
  exact s.voice_phaseAfter (hampOf s.hoffset) a i s.channels[c]

/-- The loop reads no channel: its mixes are given. -/
theorem State.renderLoop_withChannels (channels : Vector Channel Config.nch) (mixes : Nat → Val) (n i : Nat) (s : State) :
    State.renderLoop mixes n i { s with channels := channels } = { s.renderLoop mixes n i with channels := channels } := by
  induction n generalizing i s with
  | zero => rfl
  | succ n ih => exact ih (i + 1) (s.renderSample (mixes i))

/-- The second loop goes on where the first stopped, with the mixes of one long RENDER. -/
theorem State.renderLoop_render (s : State) (a b : Nat) :
    State.renderLoop (s.render a).mix b 0 (s.render a) =
      { s.renderLoop s.mix (a + b) 0 with channels := s.channels.map (s.phaseAfter a) } := by
  have hmix : ∀ k < b, (s.render a).mix (0 + k) = s.mix (0 + a + k) := fun k _ => by
    rw [State.mix_render, Nat.zero_add, Nat.zero_add]
  rw [State.renderLoop_congr b 0 (0 + a) (s.render a) hmix, State.render_eq, State.renderLoop_withChannels,
    State.renderLoop_add]

theorem State.render_render (s : State) (a b : Nat) : (s.render a).render b = s.render (a + b) := by
  have hphase : (s.renderLoop s.mix (a + b) 0).phaseAfter b = s.phaseAfter b := by rw [State.renderLoop_frame]; rfl
  have hchannels : (s.channels.map (s.phaseAfter a)).map (s.phaseAfter b) = s.channels.map (s.phaseAfter (a + b)) := by
    rw [Vector.map_map]
    exact congrArg s.channels.map (funext (s.phaseAfter_phaseAfter a b))
  calc (s.render a).render b
      = State.writeBack b { s.renderLoop s.mix (a + b) 0 with channels := s.channels.map (s.phaseAfter a) } :=
        congrArg (State.writeBack b) (s.renderLoop_render a b)
    _ = { s.renderLoop s.mix (a + b) 0 with
          channels := (s.channels.map (s.phaseAfter a)).map ((s.renderLoop s.mix (a + b) 0).phaseAfter b) } := rfl
    _ = s.render (a + b) := by rw [hphase, hchannels, State.render_eq]

/-- RENDER 0 leaves `CURSOR` and `HCOUNT`, so the next RENDER stops where it would have stopped without it. -/
theorem execRender_render_zero (len : Arg) (s : State) : execRender len (s.render 0) = execRender len s := by
  rw [execRender, State.render_render, State.render_render, Nat.zero_add, Nat.zero_add]
  rfl

/-- A RENDER of at least one sample that completes found both its indexes in range. -/
theorem bounds_of_execRender_eq_next {len : Arg} {s t : State} (hlen : len ≠ 0#32) (h : execRender len s = .next t) :
    s.cursor < s.rlen ∧ s.hcount ≤ 8 := by
  have hc : s.cursor < s.rlen := by
    by_contra hc
    rw [execRender_of_cursor_outside hlen (not_lt.1 hc)] at h
    cases h
  refine ⟨hc, ?_⟩
  by_contra hh
  rw [execRender_of_hcount_above hlen hc (not_le.1 hh)] at h
  cases h

/-- Settles O50: RENDER 0 leaves what the guards read; after a longer one the cursor is in range again, so both ways complete, and the two
are one by `State.render_render`. -/
theorem twoRendersAreOneLongRender : Obligations.TwoRendersAreOneLongRender := by
  intro a b s t hab ha
  obtain rfl := execRender_eq_next ha
  obtain rfl | hlen := eq_or_ne a 0#32
  · rw [BitVec.zero_add]
    exact execRender_render_zero b s
  · obtain ⟨hc, hh⟩ := bounds_of_execRender_eq_next hlen ha
    have hrlen : (s.render a.toNat).rlen = s.rlen := State.renderLoop_rlen s.mix a.toNat 0 s
    have hcursor : (s.render a.toNat).cursor = (s.cursor + a.toNat) % s.rlen := State.renderLoop_cursor hc s.mix a.toNat
    have hhcount : (s.render a.toNat).hcount = s.hcount := State.renderLoop_hcount s.mix a.toNat 0 s
    have hc' : (s.render a.toNat).cursor < (s.render a.toNat).rlen := by
      rw [hcursor, hrlen]
      exact Nat.mod_lt _ (Nat.zero_lt_of_lt hc)
    have hsum : (a + b).toNat = a.toNat + b.toNat := BitVec.toNat_add_of_lt hab
    rw [exec_render_next (a + b) hc hh, hsum, ← State.render_render]
    exact exec_render_next b hc' (hhcount.trans_le hh)

/-! ### Disabled channels and effective frequency zero (R170, R171) -/

theorem State.updChannel_getElem_self {ch : Sel} (h : ch.toNat < Config.nch) (f : Channel → Channel) (s : State) :
    (s.updChannel ch f).channels[ch.toNat] = f s.channels[ch.toNat] := by
  rw [State.updChannel_of_lt f s h]
  exact Vector.getElem_set_self h

theorem execAll_cons_of_next {i : Instr} {s t : State} (h : exec i s = .next t) (is : List Instr) :
    execAll (i :: is) s = execAll is t := by
  rw [execAll, h]

/-- Settles O52: between the two SETENs the channel is disabled, so RENDER's write-back leaves it alone. -/
theorem disabledChannelKeepsItsPhase : Obligations.DisabledChannelKeepsItsPhase := by
  refine ⟨fun ch len s hch hc hh => ?_, fun s hamp i c h => State.voice_of_disabled h s hamp i⟩
  have hrender := exec_render_next (s := s.updChannel ch (Channel.withEn false)) len
    (by simpa [State.rlen] using hc) (by simpa using hh)
  have hchannel : ((s.updChannel ch (Channel.withEn false)).render len.toNat).channels[ch.toNat] =
      s.channels[ch.toNat].withEn false := by
    rw [State.render_getElem _ _ hch, State.updChannel_getElem_self hch, State.phaseAfter_of_disabled rfl]
  refine ⟨State.updChannel ch (Channel.withEn true) _,
    (execAll_cons_of_next rfl _).trans ((execAll_cons_of_next hrender _).trans rfl), ?_, ?_⟩ <;>
  rw [State.updChannel_getElem_self hch, hchannel] <;> rfl

/-- At effective frequency zero the phase stands still (R171). -/
theorem State.phi_of_zero_frequency {s : State} {c : Channel} (h : c.freq + s.fshift = 0) (i : Nat) :
    s.phi c i = c.pp := by
  rw [State.phi, State.delta, h, zero_div, mul_zero, add_zero]

/-- At a negative effective frequency the phase runs backwards (R171). -/
theorem State.phi_succ_lt {s : State} {c : Channel} (hsr : 0 < s.sr) (h : c.freq + s.fshift < 0) (i : Nat) :
    s.phi c (i + 1) < s.phi c i := by
  have hdelta : s.delta c < 0 := div_neg_of_neg_of_pos h (by exact_mod_cast hsr)
  have hstep : s.phi c (i + 1) = s.phi c i + s.delta c := by
    simp only [State.phi]
    push_cast
    ring
  rw [hstep]
  exact add_lt_of_neg_right _ hdelta

theorem State.voice_of_zero_frequency {s : State} {c : Channel} (h : c.freq + s.fshift = 0) (hen : c.en = true)
    (hamp : List Val) (i : Nat) : s.voice hamp i c = waveHarmonics c.pp s.wmask s.duty s.hcount hamp := by
  rw [State.voice_of_enabled hen, State.phi_of_zero_frequency h]

/-- At phase 0 a sawtooth and a triangle are both at their least, -1 (R171's example). -/
theorem wave_zero_saw_tri (duty : Val) : wave 0 0b1100#4 duty = -9 / 10 := by
  have hfrac : frac 0 = 0 := frac_of_unit (le_refl 0) zero_lt_one
  have hsaw : genSaw 0 = -1 := by rw [genSaw, hfrac]; norm_num
  have htri : genTri 0 = -1 := (genTri_eq_neg_one_iff 0).2 hfrac
  have hwave : wave 0 0b1100#4 duty = 0 + 0 + wSaw * genSaw 0 + wTri * genTri 0 := rfl
  rw [hwave, hsaw, htri, wSaw, wTri]
  norm_num

theorem waveHarmonics_one (t : Val) (mask : BitVec 4) (duty hoffset : Val) :
    waveHarmonics t mask duty 1 (hampOf hoffset) = wave t mask duty := by
  rw [waveHarmonics_eq_sum, Finset.sum_range_one, harmonicTerm, hampOf_getD_zero, decayPow_eq_pow]
  simp

theorem waveHarmonics_zero_saw_tri (duty hoffset : Val) : waveHarmonics 0 0b1100#4 duty 1 (hampOf hoffset) = -9 / 10 := by
  rw [waveHarmonics_one, wave_zero_saw_tri]

/-- Settles O53: at effective frequency zero every sample sees the stored phase, a negative one makes `delta` negative, and
the write-back leaves a fractional part. -/
theorem zeroFrequencyIsAConstant : Obligations.ZeroFrequencyIsAConstant := by
  refine ⟨fun len s c hc hh => ⟨_, exec_render_next len hc hh, fun hzero => ?_, ?_, fun hen => ?_⟩,
    fun s c hen hzero hpp hmask hcount i => ?_, waveHarmonics_zero_saw_tri⟩
  · refine ⟨State.phi_of_zero_frequency hzero, fun hen i => ?_, fun hen => State.voice_of_disabled hen s _,
      fun h0 h1 => ?_⟩
    · have hvoice := State.voice_of_zero_frequency hzero hen (hampOf s.hoffset) i
      exact ⟨hvoice, hvoice ▸ s.mix_eq_mix_disabled_add_voice c i⟩
    · exact (s.render_getElem _ c.isLt).trans (State.phaseAfter_of_phi_eq (State.phi_of_zero_frequency hzero _) h0 h1)
  · have hsr : 0 < s.sr := by
      have : s.cursor < s.sr / 5 := hc
      omega
    exact State.phi_succ_lt hsr
  · have hchannel := (s.render_getElem len.toNat c.isLt).trans (State.phaseAfter_of_enabled hen s len.toNat)
    rw [Fin.getElem_fin, hchannel]
    exact ⟨frac_nonneg _, frac_lt_one _⟩
  · rw [State.voice_of_zero_frequency hzero hen, hpp, hmask, hcount, waveHarmonics_zero_saw_tri]

end Sys2Proof.Machine
end

section
/-! PROOFS. Family 42_control: TICK and its four controllers (R180 to R188), NOTEON (R190), that a setter is idempotent
(R191), and that the control parameters reach a RENDER through the next TICK only (R271). -/

namespace Sys2Proof.Machine

/-! ### The elapsed time (R181) -/

/-- The subtraction of two stamps is the integers' difference modulo 2^32. -/
theorem State.elapsed_eq (now : Arg) (s : State) :
    s.elapsed now = (((now.toNat : Int) - (s.envStart.toNat : Int)) % 4294967296 : Int) / 65536 := by
  have hdiff : ((now - s.envStart).toNat : Int) = ((now.toNat : Int) - (s.envStart.toNat : Int)) % 4294967296 := by
    rw [BitVec.toNat_sub]
    omega
  rw [State.elapsed, ← hdiff, Int.cast_natCast]

theorem State.elapsed_le (now : Arg) (s : State) : s.elapsed now ≤ 65536 - 1 / 65536 := by
  have hlt : (((now - s.envStart).toNat : Nat) : Val) ≤ 4294967295 := by
    exact_mod_cast Nat.le_of_lt_succ (now - s.envStart).isLt
  rw [State.elapsed, div_le_iff₀ (by norm_num)]
  linarith

theorem State.onGrid_elapsed (now : Arg) (s : State) : OnGrid (s.elapsed now) :=
  ⟨(now - s.envStart).toNat, by rw [State.elapsed, Int.cast_natCast]⟩

/-! ### TICK and NOTEON (R180, R190) -/

theorem exec_tick (now : Arg) (s : State) : exec (.tick now) s = .next (s.tick (s.elapsed now)) := rfl

/-- The duty width with R9's constants in their place. -/
theorem dutyAt_eq (drate doff elapsed : Val) :
    dutyAt drate doff elapsed = if drate = 0 then doff else 1 / 2 + 2 / 5 * sinT (drate * elapsed) := rfl

/-- Settles O34: the four writes of TICK, each reading only registers that TICK does not write, but for `HOFFSET`. -/
theorem tickRunsTheFourControllers : Obligations.TickRunsTheFourControllers := by
  refine ⟨fun _ => rfl, rfl, fun now s => ?effect, fun now now' s t u ht hu => ?twice⟩
  case effect => rw [exec_tick, State.tick_eq, dutyAt_eq]
  case twice =>
    cases ht
    cases hu
    have hadd : s.hoffset + s.hvel + s.hvel = s.hoffset + 2 * s.hvel := by ring
    exact hadd

/-- Settles O35: the stamps' difference is below 2^32, and TICK passes its one elapsed time to each controller. -/
theorem elapsedTimeIsTheStampDifference : Obligations.ElapsedTimeIsTheStampDifference := fun now s =>
  ⟨s.elapsed_eq now, s.elapsed_nonneg now, s.elapsed_le now, s.onGrid_elapsed now, rfl⟩

/-- Settles O30: NOTEON is one write. -/
theorem noteonRecordsTheEnvelopeStart : Obligations.NoteonRecordsTheEnvelopeStart :=
  ⟨fun _ => rfl, rfl, fun _ _ => rfl⟩

/-! ### The envelope (R182, R188) -/

/-- A clamp as a maximum of a minimum, which shows it monotone. -/
theorem clamp_eq_max_min {lo hi : Val} (h : lo ≤ hi) (v : Val) : clamp v lo hi = max lo (min hi v) := by
  unfold clamp
  split
  · next hv => rw [min_eq_right (hv.le.trans h), max_eq_left hv.le]
  · next hv =>
    rw [not_lt] at hv
    split
    · next hv' => rw [min_eq_left hv'.le, max_eq_right h]
    · next hv' => rw [min_eq_right (not_lt.1 hv'), max_eq_right hv]

section
variable {attack release e e' : Val}

theorem envelopeAt_of_lt (release : Val) (h : e < attack) : envelopeAt attack release e = e / attack := if_pos h

theorem envelopeAt_of_release_zero (h : attack ≤ e) : envelopeAt attack 0 e = 0 := by
  rw [envelopeAt, if_neg h.not_gt, if_pos rfl]

/-- From `ATTACK` on with a release: the falling ramp, cut off at 0 and 1. -/
theorem envelopeAt_of_le (h : attack ≤ e) (hrel : release ≠ 0) :
    envelopeAt attack release e = max 0 (min 1 (1 - (e - attack) / release)) := by
  rw [envelopeAt, if_neg h.not_gt, if_neg hrel, clamp_eq_max_min zero_le_one]

theorem envelopeAt_during_release (h : attack ≤ e) (hrel : 0 < release) (hend : e ≤ attack + release) :
    envelopeAt attack release e = 1 - (e - attack) / release := by
  have hlo : 0 ≤ (e - attack) / release := div_nonneg (sub_nonneg.2 h) hrel.le
  have hhi : (e - attack) / release ≤ 1 := (div_le_one hrel).2 (by linarith)
  rw [envelopeAt_of_le h hrel.ne', min_eq_right (by linarith), max_eq_right (by linarith)]

theorem envelopeAt_after_release (hrel : 0 < release) (hend : attack + release ≤ e) : envelopeAt attack release e = 0 := by
  have hone : 1 ≤ (e - attack) / release := (one_le_div hrel).2 (by linarith)
  rw [envelopeAt_of_le (by linarith) hrel.ne']
  exact max_eq_left ((min_le_right _ _).trans (by linarith))

theorem envelopeAt_mono_of_lt (release : Val) (hattack : 0 ≤ attack) (he : e ≤ e') (h : e' < attack) :
    envelopeAt attack release e ≤ envelopeAt attack release e' := by
  rw [envelopeAt_of_lt release h, envelopeAt_of_lt release (he.trans_lt h)]
  exact div_le_div_of_nonneg_right he hattack

theorem envelopeAt_anti_of_le (hrelease : 0 ≤ release) (he : e ≤ e') (h : attack ≤ e) :
    envelopeAt attack release e' ≤ envelopeAt attack release e := by
  obtain rfl | hrel := hrelease.eq_or_lt
  · rw [envelopeAt_of_release_zero h, envelopeAt_of_release_zero (h.trans he)]
  · rw [envelopeAt_of_le h hrel.ne', envelopeAt_of_le (h.trans he) hrel.ne']
    gcongr

end

/-- `VOLUME` is written by TICK only (R188). -/
theorem exec_volume {i : Instr} {s t : State} (hi : ∀ now, i ≠ .tick now) (h : exec i s = .next t) : t.volume = s.volume := by
  cases i with
  | tick now => exact absurd rfl (hi now)
  | render len =>
    rw [execRender_eq_next h]
    exact State.renderLoop_volume s.mix (formLen len) 0 s
  | setfreq ch | seten ch | setch0 ch | setch1 ch =>
    cases h
    exact State.updChannel_volume ch _ s
  | noteon | setmask | sethcnt | sethvel | setdoff | setdrate | setvdep | setvrate | setatk | setrel =>
    cases h
    rfl

/-- Settles O36: the branches of `envelopeAt`, each with its range. -/
theorem envelopeHasThreeBranches : Obligations.EnvelopeHasThreeBranches := by
  intro now s
  refine ⟨_, exec_tick now s, fun h => ?attack, fun h hrel => ?noRelease, fun h hrel hend => ?release,
    fun hend hrel => envelopeAt_after_release hrel hend⟩
  case attack =>
    have hattack : 0 < s.attack := (s.elapsed_nonneg now).trans_lt h
    have hvolume : (s.tick (s.elapsed now)).volume = s.elapsed now / s.attack := envelopeAt_of_lt s.release h
    rw [hvolume]
    exact ⟨rfl, div_nonneg (s.elapsed_nonneg now) hattack.le, (div_lt_one hattack).2 h⟩
  case noRelease =>
    rw [State.tick_eq, hrel]
    exact envelopeAt_of_release_zero h
  case release =>
    have hvolume : (s.tick (s.elapsed now)).volume = 1 - (s.elapsed now - s.attack) / s.release :=
      envelopeAt_during_release h hrel hend.le
    have hlo : 0 ≤ (s.elapsed now - s.attack) / s.release := div_nonneg (sub_nonneg.2 h) hrel.le
    have hhi : (s.elapsed now - s.attack) / s.release < 1 := (div_lt_one hrel).2 (by linarith)
    rw [hvolume]
    exact ⟨rfl, by linarith, by linarith⟩

/-- Settles O39: the attack is a rising quotient, the release a clamped falling ramp. -/
theorem envelopeRisesThenFalls : Obligations.EnvelopeRisesThenFalls := by
  refine ⟨fun now now' s t t' hattack hrelease ht ht' he => ?_, fun _ _ _ => exec_volume⟩
  cases ht
  cases ht'
  exact ⟨envelopeAt_mono_of_lt s.release hattack he, envelopeAt_anti_of_le hrelease he,
    inUnit_envelopeAt s.attack s.release (s.elapsed_nonneg now)⟩

/-! ### Vibrato and the duty width (R183, R185) -/

theorem sinT_zero : sinT 0 = 0 := by
  have hindex : index 0 Config.nSin = 0 := by simp [index_eq_floor, frac_eq_fract]
  rw [sinT, hindex, sinRom_zero]

theorem abs_mul_sinT_le (depth t : Val) : |depth * sinT t| ≤ |depth| := by
  rw [abs_mul]
  exact mul_le_of_le_one_right (abs_nonneg depth) (abs_le.2 (sinT_mem t))

/-- Settles O37: the table's sine is 0 at phase 0 and never above 1 in magnitude. -/
theorem vibratoFollowsTheTableSine : Obligations.VibratoFollowsTheTableSine := by
  intro now s
  have hfshift : (s.tick (s.elapsed now)).fshift = s.vdepth * sinT (s.vrate * s.elapsed now) := rfl
  refine ⟨_, exec_tick now s, hfshift, ?_, hfshift ▸ abs_mul_sinT_le _ _⟩
  rw [hfshift]
  rintro (hdepth | hrate)
  · rw [hdepth, zero_mul]
  · rw [hrate, zero_mul, sinT_zero, mul_zero]

/-- The oscillating duty width stays in [1/10, 9/10] (R185). -/
theorem oscillating_duty_mem (t : Val) : 1 / 10 ≤ 1 / 2 + 2 / 5 * sinT t ∧ 1 / 2 + 2 / 5 * sinT t ≤ 9 / 10 := by
  obtain ⟨hlo, hhi⟩ := sinT_mem t
  constructor <;> linarith

/-- Settles O38: the two cases of `dutyAt`. -/
theorem dutyWidthIsFixedOrOscillates : Obligations.DutyWidthIsFixedOrOscillates := by
  intro now s
  have hduty : (s.tick (s.elapsed now)).duty = dutyAt s.drate s.doff (s.elapsed now) := rfl
  refine ⟨_, exec_tick now s, fun hoff => ?off, fun hon => ?on, fun hdoff => inUnit_dutyAt s.drate hdoff (s.elapsed now)⟩
  case off => rw [hduty, dutyAt_eq, if_pos hoff]
  case on =>
    rw [hduty, dutyAt_eq, if_neg hon]
    exact ⟨rfl, oscillating_duty_mem _⟩

/-! ### The order of the controllers (R187) -/

/-- Any two of the controllers can be exchanged: neither reads what the other writes. -/
theorem controllers_commute (e : Val) :
    [State.envelope e, State.vibrato e, State.drift, State.dutyUpdate e].Pairwise Function.Commute := by
  simp only [List.pairwise_cons, List.forall_mem_cons, List.not_mem_nil, false_imp_iff, implies_true, and_true,
    List.Pairwise.nil]
  exact ⟨⟨fun _ => rfl, fun _ => rfl, fun _ => rfl⟩, ⟨fun _ => rfl, fun _ => rfl⟩, fun _ => rfl⟩

/-- Settles O40: functions that commute pairwise can run in any order. -/
theorem controllerOrderIsUnobservable : Obligations.ControllerOrderIsUnobservable := by
  intro e s fs hperm
  have : Std.Symm (Function.Commute (α := State)) := ⟨fun _ _ h => h.symm⟩
  have hcomm := (controllers_commute e).forall_of_forall fun f _ => Function.Commute.refl f
  exact (hperm.symm.foldl_eq' (fun f hf g hg s => hcomm hg hf s) s).symm

/-! ### Setters executed twice (R191) -/

/-- A change of one channel that repeats itself is done by one execution. -/
theorem State.updChannel_updChannel_of_idempotent {f : Channel → Channel} (hf : ∀ c, f (f c) = f c) (ch : Sel) (s : State) :
    (s.updChannel ch f).updChannel ch f = s.updChannel ch f := by
  by_cases hch : ch.toNat < Config.nch
  · rw [State.updChannel_of_lt f _ hch, State.updChannel_getElem_self hch, hf, State.updChannel_of_lt f s hch]
    simp only [Vector.set_set]
  · rw [State.updChannel_of_not_lt f _ hch]

/-- Settles O31: what a setter or NOTEON writes does not depend on what it writes. -/
theorem settersAreIdempotent : Obligations.SettersAreIdempotent := by
  intro i s t hrender htick h
  cases i with
  | render len => exact absurd rfl (hrender len)
  | tick now => exact absurd rfl (htick now)
  | setfreq ch | seten ch | setch0 ch | setch1 ch =>
    cases h
    refine congrArg Host.Outcome.next (State.updChannel_updChannel_of_idempotent ?_ ch s)
    exact fun _ => rfl
  | noteon | setmask | sethcnt | sethvel | setdoff | setdrate | setvdep | setvrate | setatk | setrel =>
    cases h
    rfl

/-! ### What RENDER does not read (R271) -/

/-- The registers that act through the next TICK only (R271). -/
structure Controls where
  hvel : Val
  doff : Val
  drate : Val
  vdepth : Val
  vrate : Val
  attack : Val
  release : Val
  envStart : BitVec 32

/-- The state with its control parameters and envelope start replaced. -/
def State.withControls (x : Controls) (s : State) : State :=
  { s with
    hvel := x.hvel
    doff := x.doff
    drate := x.drate
    vdepth := x.vdepth
    vrate := x.vrate
    attack := x.attack
    release := x.release
    envStart := x.envStart }

/-- The control parameters and the envelope start of a state. -/
def State.controls (s : State) : Controls where
  hvel := s.hvel
  doff := s.doff
  drate := s.drate
  vdepth := s.vdepth
  vrate := s.vrate
  attack := s.attack
  release := s.release
  envStart := s.envStart

/-- A command that acts at the next TICK changes control parameters only. -/
theorem eq_withControls_of_actsAtTick {i : Instr} {s t : State} (hi : actsAtTick i = true) (h : exec i s = .next t) :
    t = s.withControls t.controls := by
  cases i with
  | sethvel | setdoff | setdrate | setvdep | setvrate | setatk | setrel | noteon =>
    cases h
    rfl
  | render | tick | setfreq | seten | setch0 | setch1 | setmask | sethcnt => cases hi

/-- A change of the state that every sample commutes with commutes with the loop. -/
theorem State.renderLoop_comm {f : State → State} (hf : ∀ m s, (f s).renderSample m = f (s.renderSample m))
    (mixes : Nat → Val) (n i : Nat) (s : State) : (f s).renderLoop mixes n i = f (s.renderLoop mixes n i) := by
  induction n generalizing i s with
  | zero => rfl
  | succ n ih => rw [State.renderLoop_succ, hf, ih, State.renderLoop_succ]

section
variable (x : Controls)

@[simp] theorem State.withControls_rlen (s : State) : (s.withControls x).rlen = s.rlen := rfl
@[simp] theorem State.withControls_cursor (s : State) : (s.withControls x).cursor = s.cursor := rfl
@[simp] theorem State.withControls_hcount (s : State) : (s.withControls x).hcount = s.hcount := rfl

theorem State.render_withControls (len : Nat) (s : State) :
    (s.withControls x).render len = (s.render len).withControls x :=
  congrArg (State.writeBack len) (State.renderLoop_comm (fun _ _ => rfl) s.mix len 0 s)

/-- RENDER does the same whatever the control parameters are, and leaves them as they are. -/
theorem execRender_withControls (len : Arg) (s : State) :
    execRender len (s.withControls x) = mapNext (State.withControls x) (execRender len s) := by
  simp only [execRender, State.render_withControls, State.withControls_rlen, State.withControls_cursor,
    State.withControls_hcount]
  split_ifs <;> rfl

end

/-- Settles O33: such a command changes control parameters only, and RENDER reads and writes none of them. -/
theorem controlSettersWaitForTheNextTick : Obligations.ControlSettersWaitForTheNextTick := by
  intro i len s t u hi hset hrender
  have hnext : exec (.render len) t = .next (u.withControls t.controls) := by
    rw [eq_withControls_of_actsAtTick hi hset]
    exact (execRender_withControls _ len s).trans (congrArg (mapNext _) hrender)
  exact ⟨_, hnext, rfl, rfl, rfl, rfl, rfl, rfl, rfl, rfl⟩

end Sys2Proof.Machine
end

section
/-! PROOFS. Family 43_setters: the encoding, effect and frame of the thirteen setters (R200 to R212), and the one writer of
each register that no setter writes (R213). -/

namespace Sys2Proof.Machine

/-! ### Channel setters (R200 to R203) -/

theorem Channel.withFreq_eq (hz : Arg) (c : Channel) :
    c.withFreq hz = { c with freq := if hz.toInt < 0 then 0 else (hz.toInt : Val) / 65536 } := by
  rw [Channel.withFreq, clampNonneg_formQ]

/-- What a channel setter answers, with the new contents of its channel written out. -/
theorem next_updChannel_of_lt {ch : Sel} (h : ch.toNat < Config.nch) {f : Channel → Channel} {s : State} {c : Channel}
    (hf : f s.channels[ch.toNat] = c) :
    (.next (s.updChannel ch f) : Host.Outcome State Fault Refusal) =
      .next { s with channels := s.channels.set ch.toNat c h } := by
  rw [State.updChannel_of_lt f s h, hf]

/-- Settles O20: the one write is `Channel.withFreq`, which clamps the operand. -/
theorem setfreqSetsTheFrequency : Obligations.SetfreqSetsTheFrequency :=
  ⟨fun _ _ => rfl, rfl, fun _ hz _ hch => next_updChannel_of_lt hch (Channel.withFreq_eq hz _)⟩

/-- Settles O21: the one write is `Channel.withEn`. -/
theorem setenSetsTheEnableBit : Obligations.SetenSetsTheEnableBit :=
  ⟨fun _ _ => rfl, rfl, rfl, rfl, fun _ _ _ hch => next_updChannel_of_lt hch rfl⟩

/-- Settles O22: SETFREQ's write and then SETEN's of 0, on one channel. -/
theorem setch0SetsFrequencyAndDisables : Obligations.Setch0SetsFrequencyAndDisables :=
  ⟨fun _ _ => rfl, rfl, fun _ hz _ hch =>
    next_updChannel_of_lt hch (congrArg (Channel.withEn false) (Channel.withFreq_eq hz _))⟩

/-- Settles O23: SETFREQ's write and then SETEN's of 1, on one channel. -/
theorem setch1SetsFrequencyAndEnables : Obligations.Setch1SetsFrequencyAndEnables :=
  ⟨fun _ _ => rfl, rfl, rfl, fun _ hz _ hch =>
    next_updChannel_of_lt hch (congrArg (Channel.withEn true) (Channel.withFreq_eq hz _))⟩

/-! ### Config setters (R204 to R212) -/

/-- The wave with its mask bits and R9's weights in their places (R140). -/
theorem wave_eq (t : Val) (mask : BitVec 4) (duty : Val) :
    wave t mask duty =
      (if mask.getLsbD 0 then genSine t else 0) + (if mask.getLsbD 1 then 1 / 4 * genSquare t duty else 0)
        + (if mask.getLsbD 2 then 3 / 10 * genSaw t else 0) + (if mask.getLsbD 3 then 3 / 5 * genTri t else 0) := by
  have hsine : wSine * genSine t = genSine t := one_mul _
  rw [wave, hsine]
  rfl

/-- Settles O25: the mask is legal by the round trip, and `wave` reads its four bits. -/
theorem setmaskSetsTheMask : Obligations.SetmaskSetsTheMask :=
  ⟨fun _ => rfl, rfl, rfl, rfl, fun _ => decode_encode rfl, fun _ _ => rfl, fun mask t => wave_eq t mask⟩

/-- Settles O26: the clamp is `clampCount` of the signed operand. -/
theorem sethcntClampsTheCount : Obligations.SethcntClampsTheCount :=
  ⟨fun _ => rfl, rfl, fun _ _ => rfl⟩

/-- Settles O27: each is one write of `formQ`, and the TICK after SETVDEP reads the depth written. -/
theorem unclampedSettersStoreTheOperand : Obligations.UnclampedSettersStoreTheOperand := by
  refine ⟨fun _ => ⟨rfl, rfl, rfl, rfl⟩, rfl, rfl, rfl, rfl, rfl, rfl, fun _ _ => ⟨rfl, rfl, rfl, rfl⟩, fun v now s => ?_⟩
  exact ⟨_, _, rfl, exec_tick now { s with vdepth := formQ v }, rfl, rfl⟩

theorem one_lt_formQ_iff (arg : Arg) : 1 < formQ arg ↔ 65536 < arg.toInt := by
  rw [formQ, one_lt_div (by norm_num)]
  exact_mod_cast Iff.rfl

theorem clamp_formQ_unit (arg : Arg) :
    clamp (formQ arg) 0 1 = if arg.toInt < 0 then 0 else if 65536 < arg.toInt then 1 else (arg.toInt : Val) / 65536 := by
  simp only [clamp, formQ_neg_iff, one_lt_formQ_iff]
  rfl

/-- Settles O28: the one write is the clamped operand, which TICK copies to `DUTY` when the modulation is off. -/
theorem setdoffClampsTheDutyOffset : Obligations.SetdoffClampsTheDutyOffset := by
  refine ⟨fun _ => rfl, rfl, rfl, fun w s => ?effect, fun w now s hoff => ?nextTick⟩
  case effect =>
    rw [← clamp_formQ_unit]
    rfl
  case nextTick => exact ⟨_, _, rfl, exec_tick now { s with doff := clamp (formQ w) 0 1 }, rfl, if_pos hoff⟩

/-- Settles O29: both write the operand through `clampNonneg`. -/
theorem durationSettersClampAtZero : Obligations.DurationSettersClampAtZero := by
  refine ⟨fun _ => ⟨rfl, rfl⟩, rfl, rfl, rfl, rfl, fun v s => ?_⟩
  rw [← clampNonneg_formQ]
  exact ⟨rfl, rfl⟩

/-! ### The registers without a setter (R213) -/

/-- A change of one channel that keeps its phase keeps every phase. -/
theorem State.updChannel_pp {f : Channel → Channel} (hf : ∀ c, (f c).pp = c.pp) (ch : Sel) (s : State) (c : Fin Config.nch) :
    (s.updChannel ch f).channels[c].pp = s.channels[c].pp := by
  by_cases hch : ch.toNat < Config.nch
  · rw [State.updChannel_of_lt f s hch]
    by_cases hc : ch.toNat = c
    · simp [hc, hf]
    · simp [hc]
  · rw [State.updChannel_of_not_lt f s hch]

/-- Settles O32: TICK, RENDER and NOTEON each keep what the other two write, and a setter keeps all of it. -/
theorem registersWithoutASetterHaveOneWriter : Obligations.RegistersWithoutASetterHaveOneWriter := by
  intro i s t h
  cases i with
  | render len =>
    rw [execRender_eq_next h, State.render_eq]
    exact ⟨fun _ => by simp, fun hne => absurd rfl (hne len), fun _ => by simp, by simp⟩
  | tick now =>
    cases h
    exact ⟨fun hne => absurd rfl (hne now), fun _ => ⟨fun _ => rfl, rfl, rfl, rfl⟩, fun _ => rfl, rfl⟩
  | noteon now =>
    cases h
    exact ⟨fun _ => ⟨rfl, rfl, rfl, rfl⟩, fun _ => ⟨fun _ => rfl, rfl, rfl, rfl⟩, fun hne => absurd rfl (hne now), rfl⟩
  | setfreq ch | seten ch | setch0 ch | setch1 ch =>
    cases h
    refine ⟨fun _ => by simp, fun _ => ⟨State.updChannel_pp ?_ ch s, by simp⟩, fun _ => by simp, by simp⟩
    exact fun _ => rfl
  | setmask | sethcnt | sethvel | setdoff | setdrate | setvdep | setvrate | setatk | setrel =>
    cases h
    exact ⟨fun _ => ⟨rfl, rfl, rfl, rfl⟩, fun _ => ⟨fun _ => rfl, rfl, rfl, rfl⟩, fun _ => rfl, rfl⟩

end Sys2Proof.Machine
end

section
/-! PROOFS. Family 60_exceptions: a word does the same whichever host sent it (R240), and nothing faults (R230). -/

namespace Sys2Proof.Machine

/-- Presented alone, by either host, a word is executed on the state as it was before (R240). -/
theorem step_present {s : State} (hrun : s.running = true) (hr : s.renderQ = []) (hc : s.controlQ = []) (h : HostId)
    (w : Word48) : step (s.present h w) = acceptWord w s := by
  cases h with
  | render =>
    have hrest : (s.present .render w).takeRender [] = s := by
      rw [← hr]
      rfl
    have hqueue : (s.present .render w).renderQ = [w] := by simp [State.present, hr]
    rw [step_renderOnly (s := s.present .render w) hrun hqueue hc, hrest]
  | control =>
    have hrest : (s.present .control w).takeControl [] = s := by
      rw [← hc]
      rfl
    have hqueue : (s.present .control w).controlQ = [w] := by simp [State.present, hc]
    rw [step_controlOnly (s := s.present .control w) hrun hqueue hr, hrest]

/-- An event resets the block, ends the run or is refused; it never faults (R260, R265). -/
theorem State.applyEvent_ne_fault (e : Lifecycle) (s : State) (f : Fault) : s.applyEvent e ≠ .fault f := by
  cases e with
  | init rate blockSize =>
    rw [State.applyEvent]
    split <;> nofun
  | shutdown => nofun

end Sys2Proof.Machine

namespace Sys2Proof

open Sys2Proof.Machine

/-- Taking a word changes only the inputs of the step, which the invariant does not read. -/
theorem Inv.taken {s rest : State} {h : HostId} {w : Word48} (hs : Inv s) (ht : Taken s h w rest) : Inv rest :=
  ht.frame ▸ { hs with }

/-- No step faults: an accepted word completes under the invariant, and nothing else a step can be is a fault (R230). -/
theorem Inv.safe {s : State} (hs : Inv s) : Safe s := by
  intro f hf
  rcases step_cases s with ⟨_, w, rest, -, ht, hstep⟩ | ⟨e, es, -, hstep⟩ | hstep | ⟨-, -, hstep⟩ <;> rw [hstep] at hf
  · obtain ⟨t, hnext, -⟩ := (hs.taken ht).acceptWord_next w
    cases hnext.symm.trans hf
  · exact State.applyEvent_ne_fault e _ f hf
  · cases hf
  · cases hf

/-- Settles O12: from either host the word is executed on the same state. -/
theorem sendingHostIsInvisible : Obligations.SendingHostIsInvisible := fun _ w hrun hr hc =>
  (step_present hrun hr hc .render w).trans (step_present hrun hr hc .control w).symm

/-- Settles O58: every word is a command, which completes under the invariant, or ILLEGAL, which does nothing. -/
theorem everyWordHasAnEffect : Obligations.EveryWordHasAnEffect := fun _ hs =>
  ⟨hs.exec_next, fun w => (hs.acceptWord_next w).imp fun _ => And.left, hs.safe⟩

end Sys2Proof
end

section
/-! PROOFS. Family 70_reset_and_hazards: the block with no word to accept, its events init and shutdown (R260, R265), and the
silence of a RENDER right after reset (R261). -/

namespace Sys2Proof.Machine

/-! ### A step without a word (R75, R260, R265) -/

theorem step_of_select_event {s rest : State} {e : Lifecycle} (hs : s.select = .event e rest) :
    step s = rest.applyEvent e := by
  rw [step, hs, carryOut]

/-- The oldest event is taken when no word is pending, and by a block that is shut down whatever is pending (log 4). -/
theorem step_event {s : State} {e : Lifecycle} {es : List Lifecycle} (hl : s.lifecycle = e :: es)
    (hempty : s.running = true → s.renderQ = [] ∧ s.controlQ = []) :
    step s = State.applyEvent e { s with lifecycle := es } := by
  apply step_of_select_event
  cases hrun : s.running with
  | true =>
    obtain ⟨hr, hc⟩ := hempty hrun
    simp [State.select, State.selectEvent, hrun, hr, hc, hl]
  | false => simp [State.select, State.selectEvent, hrun, hl]

/-- A running block with nothing presented waits (log 3). -/
theorem step_idle {s : State} (hrun : s.running = true) (hr : s.renderQ = []) (hc : s.controlQ = [])
    (hl : s.lifecycle = []) : step s = .next s := by
  simp [step, State.select, State.selectEvent, carryOut, hrun, hr, hc, hl]

/-- A block that is shut down takes events only (R265, log 4). -/
theorem step_stopped {s : State} (hrun : s.running = false) (hl : s.lifecycle = []) : step s = .refused .notRunning := by
  simp [step, State.select, State.selectEvent, carryOut, hrun, hl]

/-! ### init and shutdown (R260, R265) -/

theorem State.applyEvent_init_of_le {rate : Nat} (h : 5 ≤ rate) (blockSize : Nat) (s : State) :
    s.applyEvent (.init rate blockSize) =
      .next { State.init rate with lifecycle := s.lifecycle, arbSeq := s.arbSeq } := if_pos h

theorem State.applyEvent_init_of_lt {rate : Nat} (h : rate < 5) (blockSize : Nat) (s : State) :
    s.applyEvent (.init rate blockSize) = .refused .badSampleRate := if_neg h.not_ge

@[simp] theorem State.applyEvent_shutdown (s : State) : s.applyEvent .shutdown = .next { s with running := false } := rfl

@[simp] theorem State.present_running (h : HostId) (w : Word48) (s : State) : (s.present h w).running = s.running := by
  cases h <;> rfl

@[simp] theorem State.present_lifecycle (h : HostId) (w : Word48) (s : State) :
    (s.present h w).lifecycle = s.lifecycle := by
  cases h <;> rfl

/-- While words are waiting, a step of a running block leaves the events and `running` as they are. -/
theorem running_and_lifecycle_of_step_of_waiting {s t : State} (hrun : s.running = true) (hw : s.waiting ≠ 0)
    (h : step s = .next t) : t.running = true ∧ t.lifecycle = s.lifecycle := by
  obtain ⟨_, w, rest, ht, hstep⟩ := step_of_waiting hrun hw
  obtain ⟨hrunning, -, -, hlifecycle, -⟩ := State.inputs_eq_iff.1 (acceptWord_inputs (hstep.symm.trans h))
  rw [hrunning, hlifecycle, ht.frame]
  exact ⟨hrun, rfl⟩

/-! ### Silence (R261) -/

/-- With no generator active a wave is 0 at every phase (R140). -/
theorem wave_mask_zero (t duty : Val) : wave t 0#4 duty = 0 := by simp [wave_eq]

theorem waveHarmonics_mask_zero (t duty : Val) (hcount : Nat) (hamp : List Val) :
    waveHarmonics t 0#4 duty hcount hamp = 0 := by
  rw [waveHarmonics_eq_sum]
  refine Finset.sum_eq_zero fun k _ => ?_
  rw [harmonicTerm, wave_mask_zero, zero_mul, zero_mul]

theorem State.voice_of_mask_zero {s : State} (h : s.wmask = 0#4) (hamp : List Val) (i : Nat) (c : Channel) :
    s.voice hamp i c = 0 := by
  rw [State.voice, h, waveHarmonics_mask_zero, ite_self]

theorem State.mix_of_mask_zero {s : State} (h : s.wmask = 0#4) : s.mix = fun _ => 0 := by
  funext i
  rw [State.mix_eq_sum]
  exact Finset.sum_eq_zero fun c _ => State.voice_of_mask_zero h _ i _

/-- Zeros stored in an empty reverb buffer leave it empty. -/
theorem State.rb_renderLoop_silent {s : State} (hc : s.cursor < s.rlen) (hrb : s.rb = []) (n : Nat) :
    (s.renderLoop (fun _ => 0) n 0).rb = [] := by
  have hwf : Memory.wf s.rb := hrb ▸ Memory.wf_nil
  refine Memory.ext_of_wf (State.wf_rb_renderLoop hwf _ n) Memory.wf_nil fun j => ?_
  have hread : Memory.read j s.rb = 0 := by rw [hrb]; rfl
  simp only [State.read_rb_renderLoop hc hwf, hread, ite_self]
  rfl

/-- Without a mix and without an echo every sample is 0. -/
theorem State.out_renderLoop_silent {s : State} (hc : s.cursor < s.rlen) (hrb : s.rb = []) (n : Nat) :
    (s.renderLoop (fun _ => 0) n 0).out = s.out ++ List.replicate n 0 := by
  rw [State.out_renderLoop hc (hrb ▸ Memory.wf_nil)]
  simp [hrb, Memory.unlisted]

/-- The sample loop of a silent block with an empty reverb buffer. -/
theorem State.renderLoop_silent {s : State} (hc : s.cursor < s.rlen) (hrb : s.rb = []) (n : Nat) :
    s.renderLoop (fun _ => 0) n 0 =
      { s with out := s.out ++ List.replicate n 0, cursor := (s.cursor + n) % s.rlen } := by
  rw [State.renderLoop_frame, State.out_renderLoop_silent hc hrb, State.rb_renderLoop_silent hc hrb,
    State.renderLoop_cursor hc, ← hrb]

/-- A channel at its reset values has frequency 0, so its phase stands still while `FSHIFT` is 0 (R171). -/
theorem State.phaseAfter_reset {s : State} (h : s.fshift = 0) (len : Nat) :
    s.phaseAfter len Channel.reset = Channel.reset :=
  State.phaseAfter_of_phi_eq (State.phi_of_zero_frequency (by rw [h]; exact add_zero 0) len) (le_refl 0) zero_lt_one

theorem State.phaseAfter_init_channels (rate len : Nat) :
    (State.init rate).channels.map ((State.init rate).phaseAfter len) = (State.init rate).channels := by
  have hreset : (State.init rate).phaseAfter len Channel.reset = Channel.reset := State.phaseAfter_reset rfl len
  simp only [State.init, Vector.map_replicate] at hreset ⊢
  rw [hreset]

/-- RENDER right after reset: the loop is silent and no phase moves. -/
theorem State.render_init {rate : Nat} (h : 5 ≤ rate) (len : Nat) :
    (State.init rate).render len =
      { State.init rate with out := List.replicate len 0, cursor := len % (rate / 5) } := by
  have hloop := State.renderLoop_silent (Inv.init h).cursor rfl len
  rw [State.render_eq, State.mix_of_mask_zero rfl, State.phaseAfter_init_channels, hloop]
  simp [State.init, State.rlen]

/-! ### The statements -/

/-- Settles O16: with no word pending the event is taken, after which nothing is; a pending word is executed first, which
leaves the event waiting and the block running. -/
theorem shutdownEndsTheRun : Obligations.ShutdownEndsTheRun := by
  intro s hrun hl
  refine ⟨fun hr hc => ?taken, fun hpending t hstep => ?waits⟩
  case taken =>
    exact ⟨_, step_event hl fun _ => ⟨hr, hc⟩, rfl, rfl, fun h w => step_stopped (by simp) (by simp)⟩
  case waits =>
    have hw : s.waiting ≠ 0 := mt State.waiting_eq_zero_iff.1 (not_and_or.2 hpending)
    obtain ⟨hrunning, hlifecycle⟩ := running_and_lifecycle_of_step_of_waiting hrun hw hstep
    exact ⟨hrunning, hlifecycle.trans hl⟩

/-- Settles O19: reset has an empty `WMASK`, an empty `RB` and every frequency at 0. -/
theorem renderAfterResetEmitsZeros : Obligations.RenderAfterResetEmitsZeros := fun _ len h =>
  (exec_render_next len (Inv.init h).cursor (Inv.init h).hcount_le).trans (congrArg _ (State.render_init h len.toNat))

/-- Settles O15, by what the arbiter answers when no word and no event waits. -/
theorem idleBlockWaitsAndStoppedBlockRefuses : Obligations.IdleBlockWaitsAndStoppedBlockRefuses :=
  ⟨fun _ => step_idle, fun _ => step_stopped⟩

/-- Settles O17: the event is taken, and a legal rate is one of at least 5. -/
theorem initIsAFreshReset : Obligations.InitIsAFreshReset := fun _ _ blockSize _ hl hempty =>
  ⟨fun h => (step_event hl hempty).trans (State.applyEvent_init_of_le h blockSize _),
    fun h => (step_event hl hempty).trans (State.applyEvent_init_of_lt h blockSize _)⟩

end Sys2Proof.Machine
end
